-- ==== Sys2Proof/Word.lean ====
section
/-! DEFINITION. The word types of the flame engine: one abbreviation per register width of
`10_state.md` R20 and per label width of `30_encoding.md` R81. -/

namespace Sys2Proof

/-- An 8-bit quantity: `BRIGHT`, `LOW`, `HIGH`, `CNT[i]`, `TGT[i]` (R20), a target operand (R85). -/
abbrev Byte := BitVec 8

/-- The 12-bit frame counter `FC` (R27). -/
abbrev FrameCount := BitVec 12

/-- The 32-bit generator state `SEED` (R28). -/
abbrev Seed := BitVec 32

/-- The 2-bit output port `OUT`: bit i is the level of channel i (R33). -/
abbrev Port := BitVec 2

/-- The 4-bit event word `L E I P`, bit 3 down to bit 0 (R82). -/
abbrev EventWord := BitVec 4

end Sys2Proof
end

