-- ==== Sys2Proof/Config.lean ====
section
/-! DEFINITION. The constants of the flame engine (`00_scope.md` R9, `30_encoding.md` R86), each in
one place (`93_implementation_defined.md` U13), and the one free value, `SEED0`. -/

namespace Sys2Proof.Config

/-- `FRAME_DELAY`: PWM ticks per frame (R9). -/
def frameDelay : Nat := 2930

/-- `LCG_A`: multiplier of the seed recurrence (R9). -/
def lcgA : Nat := 1103515245

/-- `LCG_C`: increment of the seed recurrence (R9). -/
def lcgC : Nat := 12345

/-- `LOW_NUM`: numerator of the low-edge slope (R9). -/
def lowNum : Nat := 25

/-- `HIGH_NUM`: numerator of the high-edge slope (R9). -/
def highNum : Nat := 113

/-- `EDGE_DEN`: denominator of both slopes, a shift by 7 (R9, R86). -/
def edgeDen : Nat := 128

/-- `HIGH_OFS`: offset of the high edge (R9). -/
def highOfs : Nat := 30

/-- `BRIGHT_MAX`: brightness ceiling (R9). -/
def brightMax : Nat := 255

/-- `BRIGHT_MIN`: brightness floor (R9). -/
def brightMin : Nat := 0

/-- `CNT_MOD`: modulus of a channel counter (R9). -/
def cntMod : Nat := 256

/-- `TGT_RESET`: reset value of both channel targets (R9). -/
def tgtReset : Nat := 1

/-- The value at which the 12-bit frame counter saturates (R151). -/
def fcMax : Nat := 4095

/-- `SEED0`: what the n-th SEED operation finds in the two timer counts. The spec leaves it open,
"any 32-bit value" (R10, R100, R203), so it has no value here: a claim that mentions it holds for
every value. The argument only tells one seeding from the next (log 5). -/
opaque seed0 : Nat → Seed

end Sys2Proof.Config
end

