-- ==== Sys2Proof/Syntax.lean ====
section
/-! DEFINITION. The syntax: channel indices, the commands that carry a label of
`30_encoding.md` R81 with its operand bytes, and the one inductive `Instr` with one constructor
per row of `spec/opcode_table.json`. -/

namespace Sys2Proof

/-- A channel index, "channel 0..1" (R85). -/
inductive Channel where
  | ch0
  | ch1
deriving DecidableEq, Repr

/-- Which label space a command's label belongs to: a slot of an event word (R83), a whole event
word (R82) or an operation number (R84). The spec keeps the formats apart by name, and the model
keeps that name beside the label (DESIGN CHOICE, log 1). -/
inductive Format where
  | slot
  | evw
  | opn
deriving DecidableEq, Repr

/-- A label as it is presented to the machine, with two operand bytes after it. The labels are
those of R82 to R84; the places of the operands, which the spec does not encode, are the model's
(DESIGN CHOICE, log 3). -/
structure Command where
  fmt   : Format
  label : Byte
  a     : Byte
  b     : Byte
deriving DecidableEq, Repr

/-- Why a command names no operation; the decoder answers with one of these. -/
inductive Reject where
  /-- The label does not fit the width of its format (R81). -/
  | labelTooWide
  /-- The operation number is one of the unassigned 23 to 31 (R87). -/
  | unassigned
  /-- A slot command selects several slots at once, which only an event word does (R83). -/
  | severalSlots
  /-- A channel operand is neither 0 nor 1 (R85). -/
  | badChannel
  /-- A level operand is neither 0 nor 1 (R85). -/
  | badLevel
  /-- An operand byte is set where the operation takes no operand (R84). -/
  | strayOperand
deriving DecidableEq, Repr

/-- The instructions: the 5 slot rows, the 16 event-word rows and the 23 operation rows of the
opcode table, in its order. In the event-word names `L` marks the four words with L = 1 and E = 0,
`Rise` stands for E = 1 with L = 1 and `Fall` for E = 1 with L = 0 (R83). -/
inductive Instr where
  -- slots (R83)
  | slotP
  | slotI
  | slotRise
  | slotFall
  | slotNone
  -- event words (R82, R161)
  | evNone
  | evP
  | evI
  | evPI
  | evFall
  | evPFall
  | evIFall
  | evPIFall
  | evNoneL
  | evPL
  | evIL
  | evPIL
  | evRise
  | evPRise
  | evIRise
  | evPIRise
  -- operations (R80, R84)
  | seed
  | nextByte
  | tick (ch : Channel)
  | setTarget (ch : Channel) (v : Byte)
  | commit (o1 o0 : Bool)
  | edges
  | increment
  | decrement
  | draw (ch : Channel)
  | onFrameTick
  | rise
  | fall
  | t1restart
  | ramp
  | edgeSvc
  | pwmStep
  | frameStep
  | incStep
  | edgeStep
  | dispatch
  | idle
  | reset
  | start
deriving DecidableEq, Repr

end Sys2Proof
end

