-- ==== Sys2Proof/Machine/State.lean ====
section
/-! DEFINITION. The state of the flame engine (`10_state.md`), the reasons a step can stop, the state
after a cold start and the state at power-on. -/

namespace Sys2Proof.Machine

/-- The pending-flag register `IF`, one sticky bit per hardware source: bit 0 `IF.T0`, bit 1 `IF.T1`,
bit 2 `IF.EDGE` (R30). -/
structure Pending where
  t0   : Bool
  t1   : Bool
  edge : Bool
deriving DecidableEq, Repr

/-- One observable output event (R90): a commit of both levels, `OUT=<o1><o0>` (R112), or the command
that restarts Timer 1 (R35, R143). -/
inductive OutEvent where
  | out (o1 o0 : Bool)
  | t1restart
deriving DecidableEq, Repr

/-- One step of an environment agent (R11): an overflow of Timer 0 (R173), an overflow of Timer 1
(R174), a transition of the pin (R175). -/
inductive EnvEvent where
  | timer0
  | timer1
  | pinEdge
deriving DecidableEq, Repr

/-- Who moves next: an environment agent, the Dispatcher and the Background, or a command presented
to the machine (DESIGN CHOICE, log 4). -/
inductive Turn where
  | env (e : EnvEvent)
  | dispatcher
  | command (c : Command)
deriving DecidableEq, Repr

/-- The faults of the flame engine: there are none, "all operations ... cannot fail in the
conventional sense" (R170). Safe: no step can claim one. -/
inductive Fault where
deriving DecidableEq, Repr

/-- Why a step has no meaning. -/
inductive Refusal where
  /-- Raised by `exec` for an instruction without a meaning. No arm raises it. Safe: nothing is
  claimed of such a step. -/
  | notModelled (mnemonic : String)
  /-- Raised by `step` when the presented command names no operation: an unassigned operation number
  23 to 31 or an ill-formed label or operand (R87). Safe: the hardware is never presented with one. -/
  | undecodable (why : Reject)
deriving DecidableEq, Repr

/-- The state: the registers of R20, the output trace of R35 and R90, and three fields of the model's
own (`ret`, `seedings`, `agenda`). -/
structure State where
  /-- `BRIGHT`, the brightness (R21). -/
  bright : Byte
  /-- `LOW`, the low duty edge (R22). -/
  low : Byte
  /-- `HIGH`, the high duty edge (R23). -/
  high : Byte
  /-- `CNT[0]`, the counter of channel 0 (R25). -/
  cnt0 : Byte
  /-- `CNT[1]`, the counter of channel 1 (R25). -/
  cnt1 : Byte
  /-- `TGT[0]`, the target duty of channel 0 (R26). -/
  tgt0 : Byte
  /-- `TGT[1]`, the target duty of channel 1 (R26). -/
  tgt1 : Byte
  /-- `FC`, the frame counter (R27). -/
  fc : FrameCount
  /-- `SEED`, the generator state (R28). -/
  seed : Seed
  /-- `HOLD`: true is `Holding`, false is `Idle` (R29). -/
  hold : Bool
  /-- `IF`, the pending flags (R30). -/
  pend : Pending
  /-- `GIE`, the global interrupt enable (R31). -/
  gie : Bool
  /-- `IS`, the in-service bit (R32). -/
  inService : Bool
  /-- `OUT`, the output port (R33). -/
  out : Port
  /-- `PIN`, the level of the input pin (R34). -/
  pin : Bool
  /-- The output events so far, oldest first (R35, R90; log 13). -/
  trace : List OutEvent
  /-- The model's own: what the last NEXTBYTE, TICK or DRAW command returned (log 12). -/
  ret : Byte
  /-- The model's own: how many SEED operations have run (log 5). -/
  seedings : Nat
  /-- The model's own: the turns still to come (log 4). -/
  agenda : List Turn
deriving DecidableEq, Repr

/-- What a step or a meaning answers. -/
abbrev Result := Host.Outcome State Fault Refusal

/-- The state after a cold start, when Boot has finished and `GIE` has just become 1 (R40), for the
parameters the spec leaves open: `SEED0`, `IF_RESET` (R10) and the level the environment drives on the
pin (R34). -/
def State.cold (seed0 : Seed) (ifReset : Pending) (pin : Bool) : State where
  bright := 0
  low := 0
  high := 30
  cnt0 := 0
  cnt1 := 0
  tgt0 := 1
  tgt1 := 1
  fc := 0
  seed := seed0
  hold := false
  pend := ifReset
  gie := true
  inService := false
  out := 0b00
  pin := pin
  trace := []
  ret := 0
  seedings := 0
  agenda := []

/-- The state right after reset: R40 with `IF_RESET` at its default `0b000`. `SEED` = 0 and `PIN` = 0
are the model's choice where the spec fixes none (DESIGN CHOICE, log 6, log 7, log 8). -/
def State.reset : State :=
  State.cold 0 ⟨false, false, false⟩ false

end Sys2Proof.Machine
end

