-- ==== Sys2Proof/Machine/Flags.lean ====
section
/-! DEFINITION. Flag computations. There are no arithmetic condition codes (`10_state.md` R37); the
flags are the pending bits of `IF` (R30), and the invocation condition is computed from them, `GIE` and
`IS` (`45_interrupt_dispatcher.md` R155). -/

namespace Sys2Proof.Machine

/-- `IF` with `IF.T0` set: a source that fires while its bit is 1 leaves it 1 (R30, R189). -/
def Pending.raiseT0 (p : Pending) : Pending := { p with t0 := true }

/-- `IF` with `IF.T1` set. -/
def Pending.raiseT1 (p : Pending) : Pending := { p with t1 := true }

/-- `IF` with `IF.EDGE` set. -/
def Pending.raiseEdge (p : Pending) : Pending := { p with edge := true }

/-- `IF` with `IF.T0` cleared, as step S1 does (R151). -/
def Pending.clearT0 (p : Pending) : Pending := { p with t0 := false }

/-- `IF` with `IF.T1` cleared, as step S3 does (R153). -/
def Pending.clearT1 (p : Pending) : Pending := { p with t1 := false }

/-- `IF` with `IF.EDGE` cleared, as step S4 does (R154). -/
def Pending.clearEdge (p : Pending) : Pending := { p with edge := false }

/-- At least one bit of `IF` is 1. -/
def Pending.any (p : Pending) : Bool := p.t0 || p.t1 || p.edge

/-- No invocation is held off: `GIE` = 1 and `IS` = 0 (R31, R32). -/
def interruptible (s : State) : Bool := s.gie && !s.inService

/-- The invocation condition of R155. -/
def mayBegin (s : State) : Bool := interruptible s && s.pend.any

end Sys2Proof.Machine
end

