-- ==== Sys2Proof/Machine/Operands.lean ====
section
/-! DEFINITION. Operand forms and named reads: the fields of an event word (`30_encoding.md` R82), the
registers of a channel (R15, R85), and the register names and indices of `20_memory.md` R62. -/

namespace Sys2Proof.Machine

/-! ## Event-word fields (R82) -/

/-- `P`, bit 0: a PWM tick is serviced. -/
def wordP (w : EventWord) : Bool := w.getLsbD 0

/-- `I`, bit 1: an increment tick is serviced. -/
def wordI (w : EventWord) : Bool := w.getLsbD 1

/-- `E`, bit 2: an edge event is serviced. -/
def wordE (w : EventWord) : Bool := w.getLsbD 2

/-- `L`, bit 3: the pin level S4 reads; meaningful only when `E` = 1. -/
def wordL (w : EventWord) : Bool := w.getLsbD 3

/-- The event word with the given fields. -/
def wordOf (l e i p : Bool) : EventWord :=
  BitVec.ofBool l ++ BitVec.ofBool e ++ BitVec.ofBool i ++ BitVec.ofBool p

/-- The canonical event word of an invocation begun in `s`: the three flags and the pin level, with
`L` = 0 when `E` = 0 (R82, R87, R158). -/
def eventWord (s : State) : EventWord :=
  wordOf (s.pend.edge && s.pin) s.pend.edge s.pend.t1 s.pend.t0

/-! ## Channel registers (R15) -/

/-- `CNT[ch]`. -/
def State.cnt (s : State) : Channel → Byte
  | .ch0 => s.cnt0
  | .ch1 => s.cnt1

/-- `TGT[ch]`. -/
def State.tgt (s : State) : Channel → Byte
  | .ch0 => s.tgt0
  | .ch1 => s.tgt1

/-- `OUT[ch]` (R33). -/
def State.level (s : State) : Channel → Bool
  | .ch0 => s.out.getLsbD 0
  | .ch1 => s.out.getLsbD 1

/-- `{o1, o0}`: the port value with channel 1 in the more significant place (R13, R63). -/
def portOf (o1 o0 : Bool) : Port :=
  BitVec.ofBool o1 ++ BitVec.ofBool o0

/-- A level as an 8-bit value, for the model's result field: 1 for true (R14). -/
def levelValue (o : Bool) : Byte :=
  if o then 1 else 0

/-! ## Register names and indices (R62) -/

/-- The registers by name. -/
inductive Reg where
  | bright | low | high | cnt0 | cnt1 | tgt0 | tgt1 | fc | seed | hold | pend | gie | inService | out | pin
deriving DecidableEq, Repr

/-- The index map of R62. -/
def regIndex : Reg → Nat
  | .bright => 0
  | .low => 1
  | .high => 2
  | .cnt0 => 3
  | .cnt1 => 4
  | .tgt0 => 5
  | .tgt1 => 6
  | .fc => 7
  | .seed => 8
  | .hold => 9
  | .pend => 10
  | .gie => 11
  | .inService => 12
  | .out => 13
  | .pin => 14

/-- The widths of R20. -/
def regWidth : Reg → Nat
  | .fc => 12
  | .seed => 32
  | .hold => 1
  | .pend => 3
  | .gie => 1
  | .inService => 1
  | .out => 2
  | .pin => 1
  | _ => 8

/-- `IF` as a 3-bit value: bit 0 `T0`, bit 1 `T1`, bit 2 `EDGE` (R30). -/
def pendingBits (p : Pending) : BitVec 3 :=
  BitVec.ofBool p.edge ++ BitVec.ofBool p.t1 ++ BitVec.ofBool p.t0

/-- The pending flags of a 3-bit value (R30). -/
def pendingOf (v : BitVec 3) : Pending :=
  ⟨v.getLsbD 0, v.getLsbD 1, v.getLsbD 2⟩

/-- The value of a named register, as an unsigned integer (R13, R15). -/
def readReg (s : State) : Reg → Nat
  | .bright => s.bright.toNat
  | .low => s.low.toNat
  | .high => s.high.toNat
  | .cnt0 => s.cnt0.toNat
  | .cnt1 => s.cnt1.toNat
  | .tgt0 => s.tgt0.toNat
  | .tgt1 => s.tgt1.toNat
  | .fc => s.fc.toNat
  | .seed => s.seed.toNat
  | .hold => s.hold.toNat
  | .pend => (pendingBits s.pend).toNat
  | .gie => s.gie.toNat
  | .inService => s.inService.toNat
  | .out => s.out.toNat
  | .pin => s.pin.toNat

end Sys2Proof.Machine
end

