-- ==== Sys2Proof/Machine/Ops.lean ====
section
/-! DEFINITION. The named operations over registers, port, pin and timers: one write per register
(`00_scope.md` R15), the port primitives of `20_memory.md`, the environment's steps
(`60_exceptions.md` R173 to R175), and interrupt entry and return (R179, R180). -/

namespace Sys2Proof.Machine

/-! ## Register writes (R15, R68) -/

/-- `BRIGHT <- v`. -/
def State.setBright (s : State) (v : Byte) : State := { s with bright := v }

/-- `LOW <- l` and `HIGH <- h`. -/
def State.setEdges (s : State) (l h : Byte) : State := { s with low := l, high := h }

/-- `CNT[ch] <- v`. -/
def State.setCnt (s : State) (ch : Channel) (v : Byte) : State :=
  { s with
    cnt0 := match ch with | .ch0 => v | .ch1 => s.cnt0
    cnt1 := match ch with | .ch0 => s.cnt1 | .ch1 => v }

/-- `TGT[ch] <- v`. -/
def State.setTgt (s : State) (ch : Channel) (v : Byte) : State :=
  { s with
    tgt0 := match ch with | .ch0 => v | .ch1 => s.tgt0
    tgt1 := match ch with | .ch0 => s.tgt1 | .ch1 => v }

/-- `FC <- v`. -/
def State.setFc (s : State) (v : FrameCount) : State := { s with fc := v }

/-- `SEED <- v`. -/
def State.setSeed (s : State) (v : Seed) : State := { s with seed := v }

/-- `HOLD <- v`. -/
def State.setHold (s : State) (v : Bool) : State := { s with hold := v }

/-- `IF <- v`. -/
def State.setPend (s : State) (v : Pending) : State := { s with pend := v }

/-- `GIE <- v`. -/
def State.setGie (s : State) (v : Bool) : State := { s with gie := v }

/-- `IS <- v`. -/
def State.setInService (s : State) (v : Bool) : State := { s with inService := v }

/-- `OUT <- v`, both bits in one write. -/
def State.setOut (s : State) (v : Port) : State := { s with out := v }

/-- `PIN <- v`, the environment's alone (R34). -/
def State.setPin (s : State) (v : Bool) : State := { s with pin := v }

/-- Records one output event (R35, R90). -/
def State.emit (s : State) (e : OutEvent) : State := { s with trace := s.trace ++ [e] }

/-- Leaves the value an operation returned where it can be seen (log 12). -/
def State.setRet (s : State) (v : Byte) : State := { s with ret := v }

/-- Counts one more SEED operation (log 5). -/
def State.countSeeding (s : State) : State := { s with seedings := s.seedings + 1 }

/-- Replaces the turns still to come (log 4). -/
def State.setAgenda (s : State) (l : List Turn) : State := { s with agenda := l }

/-! ## Port, pin and timer primitives -/

/-- `PortWrite(v)` with v = `{o1, o0}`: both bits in one indivisible write (R63), and the output event
`OUT=<o1><o0>` whether or not the value changes (R112). -/
def portWrite (o1 o0 : Bool) (s : State) : State :=
  (s.setOut (portOf o1 o0)).emit (.out o1 o0)

/-- `PinRead()`: the present level, no side effect (R64). -/
def pinRead (s : State) : Bool := s.pin

/-- `T1Restart()`: no register changes, one output event (R35, R143). -/
def t1Restart (s : State) : State := s.emit .t1restart

/-- The combined `TimerRead(0)`, `TimerRead(1)` of SEED: not computed, the parameter `SEED0` (R65,
R100). -/
def timerSeed (s : State) : Seed := Config.seed0 s.seedings

/-! ## The environment's steps -/

/-- One environment step: Timer 0 sets `IF.T0` (R173), Timer 1 sets `IF.T1` (R174), the pin toggles and
sets `IF.EDGE`, whichever way it moves (R175). -/
def environment (e : EnvEvent) (s : State) : State :=
  match e with
  | .timer0 => s.setPend s.pend.raiseT0
  | .timer1 => s.setPend s.pend.raiseT1
  | .pinEdge => (s.setPin (!s.pin)).setPend s.pend.raiseEdge

/-- The environment steps that make the next invocation find what event word `w` says: each flag that
`w` names is set, and the pin is at level `L` when `w` has an edge. A flag that is already pending stays
so, because only the Dispatcher clears one (R30, R82, R88; DESIGN CHOICE, log 9). -/
def present (w : EventWord) (s : State) : State :=
  (s.setPend ⟨s.pend.t0 || wordP w, s.pend.t1 || wordI w, s.pend.edge || wordE w⟩).setPin
    (if wordE w then wordL w else s.pin)

/-! ## Taking an interrupt and returning from it -/

/-- Entry: `IS` becomes 1 and nothing else changes; nothing is saved (R179). -/
def enter (s : State) : State := s.setInService true

/-- Return: `IS` becomes 0 and nothing is restored (R180). -/
def leave (s : State) : State := s.setInService false

end Sys2Proof.Machine
end

