-- ==== Sys2Proof/Machine/RandomGenerator.lean ====
section
/-! DEFINITION. RandomGenerator: SEED and NEXTBYTE (`40_random_generator.md`). -/

namespace Sys2Proof.Machine

/-- The seed recurrence `(SEED × 1103515245 + 12345) mod 2^32`, exact and then reduced (R101, R102). The
constants stand on the left so that the kernel does not count up to them on an unknown seed. -/
def lcgNext (x : Seed) : Seed :=
  BitVec.ofNat 32 (Config.lcgC + Config.lcgA * x.toNat)

/-- Bits 23..16 of a seed (R101). -/
def seedByte (x : Seed) : Byte := x.extractLsb' 16 8

/-- SEED: `SEED <- SEED0` (R100). -/
def reseed (s : State) : State :=
  (s.setSeed (timerSeed s)).countSeeding

/-- NEXTBYTE's write: the new seed (R101). -/
def advanceSeed (s : State) : State := s.setSeed (lcgNext s.seed)

/-- NEXTBYTE's result: bits 23..16 of the new seed, not of the old (R101). -/
def nextByte (s : State) : Byte := seedByte (lcgNext s.seed)

/-- The operation SEED (R100). -/
def execSeed (s : State) : Result := .next (reseed s)

/-- The operation NEXTBYTE; its result is left in `ret` (R101; log 12). -/
def execNextByte (s : State) : Result :=
  .next ((advanceSeed s).setRet (nextByte s))

end Sys2Proof.Machine
end

