-- ==== Sys2Proof/Machine/Boot.lean ====
section
/-! DEFINITION. Boot: RESET, START, and the state at power-on with the boot sequence before it
(`70_reset_and_hazards.md` R201 to R205). SEED stands in `RandomGenerator.lean`. -/

namespace Sys2Proof.Machine

/-- RESET, the cold-start defaults; `SEED`, `IF`, `GIE` and `PIN` are not written (R202). -/
def coldDefaults (s : State) : State :=
  { s with
    bright := 0
    low := 0
    high := 30
    cnt0 := 0
    cnt1 := 0
    tgt0 := BitVec.ofNat 8 Config.tgtReset
    tgt1 := BitVec.ofNat 8 Config.tgtReset
    fc := 0
    hold := false
    inService := false
    out := 0b00 }

/-- START: `GIE <- 1` (R205). -/
def startInterrupts (s : State) : State := s.setGie true

/-- The operation RESET (R202). -/
def execReset (s : State) : Result := .next (coldDefaults s)

/-- The operation START (R205). -/
def execStart (s : State) : Result := .next (startInterrupts s)

/-- Boot's operations in order, after `configureHardware()`, which the spec excludes (R201, R204). -/
def bootSequence : List Turn :=
  [.command ⟨.opn, 21, 0, 0⟩, .command ⟨.opn, 0, 0, 0⟩, .command ⟨.opn, 22, 0, 0⟩]

/-- The machine at power-on: `GIE` = 0, `IS` = 0, no output event yet, Boot about to run, and every
other register at whatever `s` holds, because it "has no defined value yet" (R201; log 18). -/
def State.powerOn (s : State) : State :=
  { s with gie := false, inService := false, trace := [], agenda := bootSequence ++ s.agenda }

end Sys2Proof.Machine
end

