-- ==== Sys2Proof/Machine/Brightness.lean ====
section
/-! DEFINITION. BrightnessController: EDGES, INCREMENT and DECREMENT
(`42_brightness_controller.md`). -/

namespace Sys2Proof.Machine

/-- `low(b) = (25 × b) >> 7`, the product taken exactly (R120). -/
def lowEdge (b : Byte) : Byte :=
  BitVec.ofNat 8 (Config.lowNum * b.toNat / Config.edgeDen)

/-- `high(b) = ((113 × b) >> 7) + 30`, the product taken exactly (R120). -/
def highEdge (b : Byte) : Byte :=
  BitVec.ofNat 8 (Config.highNum * b.toNat / Config.edgeDen + Config.highOfs)

/-- EDGES: both edges from the current brightness (R120). -/
def edges (s : State) : State := s.setEdges (lowEdge s.bright) (highEdge s.bright)

/-- INCREMENT: one up and the edges recomputed, nothing at the ceiling (R122). -/
def increment (s : State) : State :=
  if s.bright.toNat < Config.brightMax then
    edges (s.setBright (BitVec.ofNat 8 (s.bright.toNat + 1)))
  else s

/-- DECREMENT: one down and the edges recomputed, nothing at the floor (R123). -/
def decrement (s : State) : State :=
  if Config.brightMin < s.bright.toNat then
    edges (s.setBright (BitVec.ofNat 8 (s.bright.toNat - 1)))
  else s

/-- The operation EDGES (R120). -/
def execEdges (s : State) : Result := .next (edges s)

/-- The operation INCREMENT (R122). -/
def execIncrement (s : State) : Result := .next (increment s)

/-- The operation DECREMENT (R123). -/
def execDecrement (s : State) : Result := .next (decrement s)

end Sys2Proof.Machine
end

