-- ==== Sys2Proof/Machine/PwmChannel.lean ====
section
/-! DEFINITION. PwmChannel: TICK, SETTARGET and COMMIT (`41_pwm_channel.md`). -/

namespace Sys2Proof.Machine

/-- `(CNT + 1) mod 256` (R110). -/
def cntNext (c : Byte) : Byte :=
  BitVec.ofNat 8 ((c.toNat + 1) % Config.cntMod)

/-- TICK(ch): the counter goes on by one, and the level is `CNT < TGT` with the counter after the
increment (R110). The port is not written (R112, C9). -/
def tick (ch : Channel) (s : State) : Bool × State :=
  let s' := s.setCnt ch (cntNext (s.cnt ch))
  (decide ((s'.cnt ch).toNat < (s'.tgt ch).toNat), s')

/-- SETTARGET(ch, v): `TGT[ch] <- v` and nothing else (R111). -/
def setTarget (ch : Channel) (v : Byte) (s : State) : State := s.setTgt ch v

/-- COMMIT(o1, o0): one port write of both levels (R112). -/
def commit (o1 o0 : Bool) (s : State) : State := portWrite o1 o0 s

/-- The operation TICK; the level it returns is left in `ret` (R110; log 12). -/
def execTick (ch : Channel) (s : State) : Result :=
  .next ((tick ch s).2.setRet (levelValue (tick ch s).1))

/-- The operation SETTARGET (R111). -/
def execSetTarget (ch : Channel) (v : Byte) (s : State) : Result := .next (setTarget ch v s)

/-- The operation COMMIT (R112). -/
def execCommit (o1 o0 : Bool) (s : State) : Result := .next (commit o1 o0 s)

end Sys2Proof.Machine
end

