-- ==== Sys2Proof/Machine/Flicker.lean ====
section
/-! DEFINITION. FlickerScheduler: DRAW and ONFRAMETICK (`43_flicker_scheduler.md`). -/

namespace Sys2Proof.Machine

/-- The divisor of a draw: `HIGH − LOW` as a mathematical integer, and 1 where that is below 1
(R130, the guard of R131). -/
def drawDivisor (low high : Byte) : Nat :=
  let d : Int := (high.toNat : Int) - (low.toNat : Int)
  if d < 1 then 1 else d.toNat

/-- `LOW + (r mod d)` (R130). -/
def drawValue (low high r : Byte) : Byte :=
  BitVec.ofNat 8 (low.toNat + r.toNat % drawDivisor low high)

/-- DRAW's result: the generator's next byte reduced into the edges; DRAW's write is `advanceSeed`. The
channel only names whom the value is for (R130). -/
def draw (_ch : Channel) (s : State) : Byte := drawValue s.low s.high (nextByte s)

/-- One channel's part of a frame tick: draw and set the target (R132). -/
def redraw (ch : Channel) (s : State) : State := setTarget ch (draw ch s) (advanceSeed s)

/-- ONFRAMETICK: both targets redrawn, channel 0 first, with the edges of before; then the decay,
unless `HOLD` = 1 (R132). -/
def onFrameTick (s : State) : State :=
  let s' := redraw .ch1 (redraw .ch0 s)
  if s'.hold then s' else decrement s'

/-- The operation DRAW; its result is left in `ret` (R130; log 12). -/
def execDraw (ch : Channel) (s : State) : Result :=
  .next ((advanceSeed s).setRet (draw ch s))

/-- The operation ONFRAMETICK (R132). -/
def execOnFrameTick (s : State) : Result := .next (onFrameTick s)

end Sys2Proof.Machine
end

