-- ==== Sys2Proof/Machine/HoldInput.lean ====
section
/-! DEFINITION. HoldInputHandler: RISE, FALL, T1RESTART, RAMP and EDGESVC
(`44_hold_input_handler.md`). -/

namespace Sys2Proof.Machine

/-- RISE: hold, one increment at once, restart of Timer 1, whatever `HOLD` was (R141, R145). -/
def rise (s : State) : State := t1Restart (increment (s.setHold true))

/-- FALL: `HOLD <- 0` and nothing else (R142). -/
def fall (s : State) : State := s.setHold false

/-- RAMP: one increment while holding (R144). -/
def ramp (s : State) : State := if s.hold then increment s else s

/-- EDGESVC: RISE or FALL by the level read now, not by `HOLD` (R145). -/
def edgeSvc (s : State) : State := if pinRead s then rise s else fall s

/-- The operation RISE (R141). -/
def execRise (s : State) : Result := .next (rise s)

/-- The operation FALL (R142). -/
def execFall (s : State) : Result := .next (fall s)

/-- The operation T1RESTART (R143). -/
def execT1restart (s : State) : Result := .next (t1Restart s)

/-- The operation RAMP (R144). -/
def execRamp (s : State) : Result := .next (ramp s)

/-- The operation EDGESVC (R145). -/
def execEdgeSvc (s : State) : Result := .next (edgeSvc s)

end Sys2Proof.Machine
end

