-- ==== Sys2Proof/Machine/Dispatcher.lean ====
section
/-! DEFINITION. InterruptDispatcher: the four steps, DISPATCH and IDLE
(`45_interrupt_dispatcher.md`). -/

namespace Sys2Proof.Machine

/-- `min(FC + 1, 4095)` (R151). -/
def fcNext (n : FrameCount) : FrameCount :=
  BitVec.ofNat 12 (min (n.toNat + 1) Config.fcMax)

/-- The body of S1: both channels tick, one commit, the frame counter goes on, `IF.T0` is cleared
(R151). -/
def pwmBody (s : State) : State :=
  let r0 := tick .ch0 s
  let r1 := tick .ch1 r0.2
  let s' := commit r1.1 r0.1 r1.2
  let s' := s'.setFc (fcNext s'.fc)
  s'.setPend s'.pend.clearT0

/-- PWMSTEP, step S1 (R151). -/
def pwmStep (s : State) : State := if s.pend.t0 then pwmBody s else s

/-- FRAMESTEP, step S2: the frame tick, when the counter has reached `FRAME_DELAY` (R152). -/
def frameStep (s : State) : State :=
  if Config.frameDelay ≤ s.fc.toNat then (onFrameTick s).setFc 0 else s

/-- The body of S3: RAMP, and `IF.T1` is cleared regardless (R153). -/
def incBody (s : State) : State :=
  let s' := ramp s
  s'.setPend s'.pend.clearT1

/-- INCSTEP, step S3 (R153). -/
def incStep (s : State) : State := if s.pend.t1 then incBody s else s

/-- The body of S4: EDGESVC, and `IF.EDGE` is cleared (R154). -/
def edgeBody (s : State) : State :=
  let s' := edgeSvc s
  s'.setPend s'.pend.clearEdge

/-- EDGESTEP, step S4 (R154). -/
def edgeStep (s : State) : State := if s.pend.edge then edgeBody s else s

/-- DISPATCH: one invocation, entry to return, S1, S2, S3, S4 each once (R150). -/
def dispatch (s : State) : State :=
  leave (edgeStep (incStep (frameStep (pwmStep (enter s)))))

/-- One invocation with event word `w`: the environment's steps that lead to the word, then DISPATCH
where an invocation may run, that is with `GIE` = 1 and `IS` = 0 (R155, R158). With nothing pending it is
the spurious invocation of R156 (log 9, log 10). -/
def invoke (w : EventWord) (s : State) : State :=
  let s' := present w s
  if interruptible s' then dispatch s' else s'

/-- The operation PWMSTEP (R151). -/
def execPwmStep (s : State) : Result := .next (pwmStep s)

/-- The operation FRAMESTEP (R152). -/
def execFrameStep (s : State) : Result := .next (frameStep s)

/-- The operation INCSTEP (R153). -/
def execIncStep (s : State) : Result := .next (incStep s)

/-- The operation EDGESTEP (R154). -/
def execEdgeStep (s : State) : Result := .next (edgeStep s)

/-- The operation DISPATCH (R150). -/
def execDispatch (s : State) : Result := .next (dispatch s)

/-- The operation IDLE: it reads and writes nothing (R159). -/
def execIdle (s : State) : Result := .next s

end Sys2Proof.Machine
end

