-- ==== Sys2Proof/Machine/EventWord.lean ====
section
/-! DEFINITION. Event words and their slots: one meaning for each of the 16 words of
`45_interrupt_dispatcher.md` R161 and for each slot of `30_encoding.md` R83. -/

namespace Sys2Proof.Machine

/-! ## Event words (R82, R161) -/

/-- `D -`, word `0b0000`: one invocation (R161). -/
def execEvNone (s : State) : Result := .next (invoke 0b0000 s)

/-- `D P`, word `0b0001`: one invocation (R161). -/
def execEvP (s : State) : Result := .next (invoke 0b0001 s)

/-- `D I`, word `0b0010`: one invocation (R161). -/
def execEvI (s : State) : Result := .next (invoke 0b0010 s)

/-- `D PI`, word `0b0011`: one invocation (R161). -/
def execEvPI (s : State) : Result := .next (invoke 0b0011 s)

/-- `D E-`, word `0b0100`: one invocation (R161). -/
def execEvFall (s : State) : Result := .next (invoke 0b0100 s)

/-- `D PE-`, word `0b0101`: one invocation (R161). -/
def execEvPFall (s : State) : Result := .next (invoke 0b0101 s)

/-- `D IE-`, word `0b0110`: one invocation (R161). -/
def execEvIFall (s : State) : Result := .next (invoke 0b0110 s)

/-- `D PIE-`, word `0b0111`: one invocation (R161). -/
def execEvPIFall (s : State) : Result := .next (invoke 0b0111 s)

/-- Word `0b1000`: as `0b0000`, `L` is ignored when `E` = 0 (R87, R161). -/
def execEvNoneL (s : State) : Result := .next (invoke 0b1000 s)

/-- Word `0b1001`: as `0b0001`, `L` is ignored when `E` = 0 (R87, R161). -/
def execEvPL (s : State) : Result := .next (invoke 0b1001 s)

/-- Word `0b1010`: as `0b0010`, `L` is ignored when `E` = 0 (R87, R161). -/
def execEvIL (s : State) : Result := .next (invoke 0b1010 s)

/-- Word `0b1011`: as `0b0011`, `L` is ignored when `E` = 0 (R87, R161). -/
def execEvPIL (s : State) : Result := .next (invoke 0b1011 s)

/-- `D E+`, word `0b1100`: one invocation (R161). -/
def execEvRise (s : State) : Result := .next (invoke 0b1100 s)

/-- `D PE+`, word `0b1101`: one invocation (R161). -/
def execEvPRise (s : State) : Result := .next (invoke 0b1101 s)

/-- `D IE+`, word `0b1110`: one invocation (R161). -/
def execEvIRise (s : State) : Result := .next (invoke 0b1110 s)

/-- `D PIE+`, word `0b1111`: one invocation (R161). -/
def execEvPIRise (s : State) : Result := .next (invoke 0b1111 s)

/-! ## Slots (R83): the step bodies an event word selects

A slot presents its own bits of the event word and runs the body that they select (log 11). -/

/-- `D.P`: the body of S1, then S2 if `FC` has reached 2930 (R83, R151, R152). -/
def execSlotP (s : State) : Result := .next (frameStep (pwmBody s))

/-- `D.I`: the body of S3 (R83, R153). -/
def execSlotI (s : State) : Result := .next (incBody s)

/-- `D.E+`: the body of S4 with pin level 1 (R83, R154). -/
def execSlotRise (s : State) : Result := .next (edgeBody (s.setPin true))

/-- `D.E-`: the body of S4 with pin level 0 (R83, R154). -/
def execSlotFall (s : State) : Result := .next (edgeBody (s.setPin false))

/-- `D.none`: no step body, a no-op (R83, R156). -/
def execSlotNone (s : State) : Result := .next s

end Sys2Proof.Machine
end

