-- ==== Sys2Proof/Machine/Dispatch.lean ====
section
/-! DEFINITION. The meaning of every instruction, one arm per constructor of `Instr`. -/

namespace Sys2Proof.Machine

def exec (i : Instr) (s : State) : Host.Outcome State Fault Refusal :=
  match i with
  -- slots (R83)
  | .slotP => Sys2Proof.Machine.execSlotP s
  | .slotI => Sys2Proof.Machine.execSlotI s
  | .slotRise => Sys2Proof.Machine.execSlotRise s
  | .slotFall => Sys2Proof.Machine.execSlotFall s
  | .slotNone => Sys2Proof.Machine.execSlotNone s
  -- event words (R161)
  | .evNone => Sys2Proof.Machine.execEvNone s
  | .evP => Sys2Proof.Machine.execEvP s
  | .evI => Sys2Proof.Machine.execEvI s
  | .evPI => Sys2Proof.Machine.execEvPI s
  | .evFall => Sys2Proof.Machine.execEvFall s
  | .evPFall => Sys2Proof.Machine.execEvPFall s
  | .evIFall => Sys2Proof.Machine.execEvIFall s
  | .evPIFall => Sys2Proof.Machine.execEvPIFall s
  | .evNoneL => Sys2Proof.Machine.execEvNoneL s
  | .evPL => Sys2Proof.Machine.execEvPL s
  | .evIL => Sys2Proof.Machine.execEvIL s
  | .evPIL => Sys2Proof.Machine.execEvPIL s
  | .evRise => Sys2Proof.Machine.execEvRise s
  | .evPRise => Sys2Proof.Machine.execEvPRise s
  | .evIRise => Sys2Proof.Machine.execEvIRise s
  | .evPIRise => Sys2Proof.Machine.execEvPIRise s
  -- operations (R84)
  | .seed => Sys2Proof.Machine.execSeed s
  | .nextByte => Sys2Proof.Machine.execNextByte s
  | .tick ch => Sys2Proof.Machine.execTick ch s
  | .setTarget ch v => Sys2Proof.Machine.execSetTarget ch v s
  | .commit o1 o0 => Sys2Proof.Machine.execCommit o1 o0 s
  | .edges => Sys2Proof.Machine.execEdges s
  | .increment => Sys2Proof.Machine.execIncrement s
  | .decrement => Sys2Proof.Machine.execDecrement s
  | .draw ch => Sys2Proof.Machine.execDraw ch s
  | .onFrameTick => Sys2Proof.Machine.execOnFrameTick s
  | .rise => Sys2Proof.Machine.execRise s
  | .fall => Sys2Proof.Machine.execFall s
  | .t1restart => Sys2Proof.Machine.execT1restart s
  | .ramp => Sys2Proof.Machine.execRamp s
  | .edgeSvc => Sys2Proof.Machine.execEdgeSvc s
  | .pwmStep => Sys2Proof.Machine.execPwmStep s
  | .frameStep => Sys2Proof.Machine.execFrameStep s
  | .incStep => Sys2Proof.Machine.execIncStep s
  | .edgeStep => Sys2Proof.Machine.execEdgeStep s
  | .dispatch => Sys2Proof.Machine.execDispatch s
  | .idle => Sys2Proof.Machine.execIdle s
  | .reset => Sys2Proof.Machine.execReset s
  | .start => Sys2Proof.Machine.execStart s

end Sys2Proof.Machine
end

