-- ==== Sys2Proof/WellFormed.lean ====
section
/-! DEFINITION. Well-formed commands: which labels and operand bytes the formats of
`30_encoding.md` R81 to R87 admit. An `Instr` is well formed by its type (a channel is one of two, a
level one of two, a target any byte, R85); what can be ill formed is a command. -/

namespace Sys2Proof

/-- The operand bytes that the operation with number `n` takes (R84, R85): TICK and DRAW a channel,
SETTARGET a channel and any target, COMMIT two levels, every other operation none. -/
def operandsFit (n : Nat) (a b : Byte) : Bool :=
  match n with
  | 2 => a.toNat < 2 && b == 0
  | 3 => a.toNat < 2
  | 4 => a.toNat < 2 && b.toNat < 2
  | 8 => a.toNat < 2 && b == 0
  | _ => a == 0 && b == 0

/-- The labels of the slot format: exactly one of P, I, E is set, or none; L has a meaning only
beside E and is otherwise free (R83, R87). -/
def slotLabelFits (n : Nat) : Bool :=
  n ∈ [0, 1, 2, 4, 8, 9, 10, 12]

/-- A command is well formed when its label is one its format assigns and its operand bytes are
those the operation takes: all 16 event words (R87), operation numbers 0 to 22 (R84), the slots of
R83. -/
def Command.wellFormed (c : Command) : Bool :=
  match c.fmt with
  | .slot => slotLabelFits c.label.toNat && c.a == 0 && c.b == 0
  | .evw  => c.label.toNat < 16 && c.a == 0 && c.b == 0
  | .opn  => c.label.toNat < 23 && operandsFit c.label.toNat c.a c.b

end Sys2Proof
end

