-- ==== Sys2Proof/Decode.lean ====
section
/-! DEFINITION. Decoding a command into an instruction and encoding an instruction as a command,
from the tables of `30_encoding.md` R82 to R87. Both are total; the decoder rejects by name. -/

namespace Sys2Proof

/-! ## Operand bytes -/

/-- An operation without operands: both operand bytes must be 0 (R84). -/
def bare (c : Command) (i : Instr) : Except Reject Instr :=
  if c.a = 0 ∧ c.b = 0 then .ok i else .error .strayOperand

/-- A channel index from its operand byte, 0 or 1 (R85). -/
def channelOf (x : Byte) : Option Channel :=
  match x.toNat with
  | 0 => some .ch0
  | 1 => some .ch1
  | _ => none

/-- A level from its operand byte, 0 or 1 (R85). -/
def levelOf (x : Byte) : Option Bool :=
  match x.toNat with
  | 0 => some false
  | 1 => some true
  | _ => none

/-- An operation whose one operand is a channel (R84: TICK, DRAW). -/
def withChannel (c : Command) (f : Channel → Instr) : Except Reject Instr :=
  match channelOf c.a with
  | none => .error .badChannel
  | some ch => if c.b = 0 then .ok (f ch) else .error .strayOperand

/-- SETTARGET takes a channel and any 8-bit target (R84, R111). -/
def withTarget (c : Command) (f : Channel → Byte → Instr) : Except Reject Instr :=
  match channelOf c.a with
  | none => .error .badChannel
  | some ch => .ok (f ch c.b)

/-- COMMIT takes the levels of channel 1 and of channel 0 (R84, R112). -/
def withLevels (c : Command) (f : Bool → Bool → Instr) : Except Reject Instr :=
  match levelOf c.a, levelOf c.b with
  | some o1, some o0 => .ok (f o1 o0)
  | _, _ => .error .badLevel

/-! ## The three formats -/

/-- The slot format (R83): bit 0 is P, bit 1 is I, bits 3 and 2 together are E+ or E-. With E = 0 the
L bit has no effect (R87). Labels that select several slots are event words and no slot. -/
def decodeSlot (c : Command) : Except Reject Instr :=
  match c.label.toNat with
  | 0 => bare c .slotNone
  | 8 => bare c .slotNone
  | 1 => bare c .slotP
  | 9 => bare c .slotP
  | 2 => bare c .slotI
  | 10 => bare c .slotI
  | 4 => bare c .slotFall
  | 12 => bare c .slotRise
  | n => .error (if n < 16 then .severalSlots else .labelTooWide)

/-- The event-word format, bits `L E I P`; all 16 values are legal (R82, R87, R161). -/
def decodeEvw (c : Command) : Except Reject Instr :=
  match c.label.toNat with
  | 0 => bare c .evNone
  | 1 => bare c .evP
  | 2 => bare c .evI
  | 3 => bare c .evPI
  | 4 => bare c .evFall
  | 5 => bare c .evPFall
  | 6 => bare c .evIFall
  | 7 => bare c .evPIFall
  | 8 => bare c .evNoneL
  | 9 => bare c .evPL
  | 10 => bare c .evIL
  | 11 => bare c .evPIL
  | 12 => bare c .evRise
  | 13 => bare c .evPRise
  | 14 => bare c .evIRise
  | 15 => bare c .evPIRise
  | _ => .error .labelTooWide

/-- The operation-number format, 5 bits, 23 to 31 unassigned (R84, R87). -/
def decodeOpn (c : Command) : Except Reject Instr :=
  match c.label.toNat with
  | 0 => bare c .seed
  | 1 => bare c .nextByte
  | 2 => withChannel c .tick
  | 3 => withTarget c .setTarget
  | 4 => withLevels c .commit
  | 5 => bare c .edges
  | 6 => bare c .increment
  | 7 => bare c .decrement
  | 8 => withChannel c .draw
  | 9 => bare c .onFrameTick
  | 10 => bare c .rise
  | 11 => bare c .fall
  | 12 => bare c .t1restart
  | 13 => bare c .ramp
  | 14 => bare c .edgeSvc
  | 15 => bare c .pwmStep
  | 16 => bare c .frameStep
  | 17 => bare c .incStep
  | 18 => bare c .edgeStep
  | 19 => bare c .dispatch
  | 20 => bare c .idle
  | 21 => bare c .reset
  | 22 => bare c .start
  | n => .error (if n < 32 then .unassigned else .labelTooWide)

/-- The decoder: total on every command, rejecting by name (R81, R83, R87). -/
def decode (c : Command) : Except Reject Instr :=
  match c.fmt with
  | .slot => decodeSlot c
  | .evw => decodeEvw c
  | .opn => decodeOpn c

/-! ## The encoder -/

/-- The operand byte of a channel index (R85). -/
def channelByte : Channel → Byte
  | .ch0 => 0
  | .ch1 => 1

/-- The operand byte of a level: 1 for ON (R14, R85). -/
def levelByte : Bool → Byte
  | false => 0
  | true => 1

/-- The command of an instruction: its canonical label (R83, R84, R87) and its operand bytes. -/
def encode : Instr → Command
  | .slotP => ⟨.slot, 0b0001, 0, 0⟩
  | .slotI => ⟨.slot, 0b0010, 0, 0⟩
  | .slotRise => ⟨.slot, 0b1100, 0, 0⟩
  | .slotFall => ⟨.slot, 0b0100, 0, 0⟩
  | .slotNone => ⟨.slot, 0b0000, 0, 0⟩
  | .evNone => ⟨.evw, 0b0000, 0, 0⟩
  | .evP => ⟨.evw, 0b0001, 0, 0⟩
  | .evI => ⟨.evw, 0b0010, 0, 0⟩
  | .evPI => ⟨.evw, 0b0011, 0, 0⟩
  | .evFall => ⟨.evw, 0b0100, 0, 0⟩
  | .evPFall => ⟨.evw, 0b0101, 0, 0⟩
  | .evIFall => ⟨.evw, 0b0110, 0, 0⟩
  | .evPIFall => ⟨.evw, 0b0111, 0, 0⟩
  | .evNoneL => ⟨.evw, 0b1000, 0, 0⟩
  | .evPL => ⟨.evw, 0b1001, 0, 0⟩
  | .evIL => ⟨.evw, 0b1010, 0, 0⟩
  | .evPIL => ⟨.evw, 0b1011, 0, 0⟩
  | .evRise => ⟨.evw, 0b1100, 0, 0⟩
  | .evPRise => ⟨.evw, 0b1101, 0, 0⟩
  | .evIRise => ⟨.evw, 0b1110, 0, 0⟩
  | .evPIRise => ⟨.evw, 0b1111, 0, 0⟩
  | .seed => ⟨.opn, 0, 0, 0⟩
  | .nextByte => ⟨.opn, 1, 0, 0⟩
  | .tick ch => ⟨.opn, 2, channelByte ch, 0⟩
  | .setTarget ch v => ⟨.opn, 3, channelByte ch, v⟩
  | .commit o1 o0 => ⟨.opn, 4, levelByte o1, levelByte o0⟩
  | .edges => ⟨.opn, 5, 0, 0⟩
  | .increment => ⟨.opn, 6, 0, 0⟩
  | .decrement => ⟨.opn, 7, 0, 0⟩
  | .draw ch => ⟨.opn, 8, channelByte ch, 0⟩
  | .onFrameTick => ⟨.opn, 9, 0, 0⟩
  | .rise => ⟨.opn, 10, 0, 0⟩
  | .fall => ⟨.opn, 11, 0, 0⟩
  | .t1restart => ⟨.opn, 12, 0, 0⟩
  | .ramp => ⟨.opn, 13, 0, 0⟩
  | .edgeSvc => ⟨.opn, 14, 0, 0⟩
  | .pwmStep => ⟨.opn, 15, 0, 0⟩
  | .frameStep => ⟨.opn, 16, 0, 0⟩
  | .incStep => ⟨.opn, 17, 0, 0⟩
  | .edgeStep => ⟨.opn, 18, 0, 0⟩
  | .dispatch => ⟨.opn, 19, 0, 0⟩
  | .idle => ⟨.opn, 20, 0, 0⟩
  | .reset => ⟨.opn, 21, 0, 0⟩
  | .start => ⟨.opn, 22, 0, 0⟩

/-! ## Table words -/

/-- The command of a bare table word: byte 0 is the label, bytes 1 and 2 the operand bytes. The
table numbers the event words and the operations alike from 0, so a bare word below 16 with no
operand is read as an event word, the only kind of word that the spec's programs are made of
(`95_test_vectors.md` section 5, R87), and any other as an operation number; a width of exactly 4 or
5 bits names the format itself (DESIGN CHOICE, log 2). -/
def tableCommand (nbits w : Nat) : Command :=
  let x := w % 2 ^ nbits
  let label := BitVec.ofNat 8 x
  let a := BitVec.ofNat 8 (x / 2 ^ 8)
  let b := BitVec.ofNat 8 (x / 2 ^ 16)
  let fmt : Format :=
    if nbits = 4 then .evw
    else if nbits = 5 then .opn
    else if label.toNat < 16 ∧ a = 0 ∧ b = 0 then .evw
    else .opn
  ⟨fmt, label, a, b⟩

/-- What the decoder reads from a bare table word, none where it rejects. -/
def decodeTableWord (nbits w : Nat) : Option Instr :=
  match decode (tableCommand nbits w) with
  | .ok i => some i
  | .error _ => none

end Sys2Proof
end

