-- ==== Sys2Proof/Machine/Fetch.lean ====
section
/-! DEFINITION. What the machine does next: the head of the agenda is taken, and a command is decoded.
There is no program counter and no instruction memory (`10_state.md` R36); the agenda stands for the
environment's free steps (R11, R39) and for the commands presented (DESIGN CHOICE, log 4). -/

namespace Sys2Proof.Machine

/-- What comes next. -/
inductive Fetched where
  | env (e : EnvEvent)
  | instr (i : Instr)
  | reject (why : Reject)
deriving DecidableEq, Repr

/-- What the machine does of itself: an invocation when one may begin, and otherwise the background's
IDLE (R155, R159, R180). -/
def autonomous (s : State) : Instr :=
  if mayBegin s then .dispatch else .idle

/-- What the machine does next, and the state without that turn. With no turn left it is the
Dispatcher's and the Background's, so that a pending flag is serviced (R214). -/
def fetch (s : State) : Fetched × State :=
  match s.agenda with
  | [] => (.instr (autonomous s), s)
  | .env e :: rest => (.env e, s.setAgenda rest)
  | .dispatcher :: rest => (.instr (autonomous s), s.setAgenda rest)
  | .command c :: rest =>
    match decode c with
    | .ok i => (.instr i, s.setAgenda rest)
    | .error why => (.reject why, s.setAgenda rest)

/-- The state in which command `c` is the next turn. -/
def presentCommand (c : Command) (s : State) : State :=
  s.setAgenda (.command c :: s.agenda)

end Sys2Proof.Machine
end

