-- ==== Sys2Proof/Machine/Step.lean ====
section
/-! DEFINITION. One step of the machine: an environment step, or the meaning of the instruction that
comes next. -/

namespace Sys2Proof.Machine

/-- One step. A whole invocation is one step (`45_interrupt_dispatcher.md` R158). -/
def step (s : State) : Host.Outcome State Fault Refusal :=
  match fetch s with
  | (.env e, s') => .next (environment e s')
  | (.instr i, s') => exec i s'
  | (.reject why, _) => .refused (.undecodable why)

/-- The state whose very next step runs the instruction with table bits `w` (log 2, log 4). -/
def State.withFetchWord (s : State) (nbits w : Nat) : State :=
  presentCommand (tableCommand nbits w) s

end Sys2Proof.Machine
end

