-- ==== Sys2Proof/Machine/Trace.lean ====
section
/-! DEFINITION. The trace syntax of `30_encoding.md` R88 to R90: cold starts, forced registers,
invocations by event word, and the pseudo-operations with their expansions. -/

namespace Sys2Proof.Machine

/-- One line of a trace (R88), or a pseudo-operation (R89). -/
inductive TraceLine where
  /-- `BOOT seed=<hex> pin=<level> if=<bits>`. -/
  | boot (seed0 : Seed) (pin : Bool) (ifReset : BitVec 3)
  /-- `SET <reg>=<value> ...`, one register or several, in the order of the line. -/
  | set (l : List (Reg × Nat))
  /-- `D <slots> *<n>`; without a count n is 1. -/
  | d (w : EventWord) (n : Nat)
  /-- `FRAMETICK`, which no trace may issue. -/
  | frameTick
  /-- `HOLDPRESS`. -/
  | holdPress
  /-- `HOLDRELEASE`. -/
  | holdRelease
  /-- `FRAME`. -/
  | frame
deriving DecidableEq, Repr

/-- One forced register write of a `SET` line; `SET BRIGHT=` also sets the edges (R88). A value is reduced
to the register's width (DESIGN CHOICE, log 22). -/
def forceReg (r : Reg) (v : Nat) (s : State) : State :=
  match r with
  | .bright => edges (s.setBright (BitVec.ofNat 8 v))
  | .low => s.setEdges (BitVec.ofNat 8 v) s.high
  | .high => s.setEdges s.low (BitVec.ofNat 8 v)
  | .cnt0 => s.setCnt .ch0 (BitVec.ofNat 8 v)
  | .cnt1 => s.setCnt .ch1 (BitVec.ofNat 8 v)
  | .tgt0 => s.setTgt .ch0 (BitVec.ofNat 8 v)
  | .tgt1 => s.setTgt .ch1 (BitVec.ofNat 8 v)
  | .fc => s.setFc (BitVec.ofNat 12 v)
  | .seed => s.setSeed (BitVec.ofNat 32 v)
  | .hold => s.setHold (v % 2 == 1)
  | .pend => s.setPend (pendingOf (BitVec.ofNat 3 v))
  | .gie => s.setGie (v % 2 == 1)
  | .inService => s.setInService (v % 2 == 1)
  | .out => s.setOut (BitVec.ofNat 2 v)
  | .pin => s.setPin (v % 2 == 1)

/-- The forced writes of one `SET` line. R88 does not say in which order they act, nor whether the edges
that `BRIGHT=` implies give way to a `LOW=` or `HIGH=` on the same line. Here they act from left to right,
and a later one overwrites an earlier one: `LOW=9 BRIGHT=100` leaves `LOW` at 19, `BRIGHT=100 LOW=9` leaves
it at 9 (DESIGN CHOICE, log 22). -/
def forceRegs (l : List (Reg × Nat)) (s : State) : State :=
  l.foldl (fun t a => forceReg a.1 a.2 t) s

/-- n identical invocations in a row. -/
def invokeTimes (w : EventWord) : Nat → State → State
  | 0, s => s
  | n + 1, s => invokeTimes w n (invoke w s)

/-- The line `D <slots> *<n>`, an error unless n ≥ 1 (R88). -/
def runInvocations (w : EventWord) (n : Nat) (s : State) : Option State :=
  if n = 0 then none else some (invokeTimes w n s)

/-- One line; none where the line is an error (R88, R89). A pseudo-operation is its expansion, so `FRAME`
is `D P *k` with k = 2930 − `FC`, and where `FC` ≥ 2930, which R41 rules out between invocations, it is
the error that `D P *0` is (DESIGN CHOICE, log 22). -/
def runLine (l : TraceLine) (s : State) : Option State :=
  match l with
  | .boot seed0 pin ifReset => some (State.cold seed0 (pendingOf ifReset) pin)
  | .set l => if l.isEmpty then none else some (forceRegs l s)
  | .d w n => runInvocations w n s
  | .frameTick => none
  | .holdPress => runInvocations 0b1100 1 s
  | .holdRelease => runInvocations 0b0100 1 s
  | .frame => runInvocations 0b0001 (Config.frameDelay - s.fc.toNat) s

/-- A whole trace, line by line; none where a line is an error. -/
def runTrace : List TraceLine → State → Option State
  | [], s => some s
  | l :: ls, s => (runLine l s).bind (runTrace ls)

/-- Two runs are observationally equal when their output events are equal, in order (R90). -/
def sameOutputs (s t : State) : Bool := s.trace == t.trace

end Sys2Proof.Machine
end

