-- ==== Sys2Proof/Safety.lean ====
section
/-! DEFINITION. What counts as a safe state and a safe run: the invariants of `10_state.md` R41. -/

namespace Sys2Proof.Safety

open Sys2Proof.Machine

/-- `LOW` and `HIGH` are the formula's values for `BRIGHT` (R24, R41 item 1). -/
def edgesAgree (s : State) : Bool :=
  s.low.toNat == 25 * s.bright.toNat / 128 && s.high.toNat == 113 * s.bright.toNat / 128 + 30

/-- What every step of the machine keeps, whatever is presented to it: the edges agree with the
brightness and no invocation is left in progress (R24, R32). -/
def settled (s : State) : Bool :=
  edgesAgree s && !s.inService

/-- A turn that the hardware itself can take (R11): an environment step, the Dispatcher's turn, or an
invocation with one of the 16 event words (R158); not a bare operation number or slot, which "no
hardware word carries" (R87). -/
def hardwareTurn (t : Turn) : Bool :=
  match t with
  | .env _ => true
  | .dispatcher => true
  | .command c => c.fmt == .evw && c.wellFormed

/-- The levels of the last commit in a list of output events, if there is one. -/
def lastCommit (l : List OutEvent) : Option (Bool × Bool) :=
  l.foldl (fun acc e => match e with | .out o1 o0 => some (o1, o0) | .t1restart => acc) none

/-- The port holds the value of the last commit (R33, "It holds its value between commits"), and `0b00`
before the first. -/
def portHolds (s : State) : Bool :=
  match lastCommit s.trace with
  | some (o1, o0) => s.out == BitVec.ofBool o1 ++ BitVec.ofBool o0
  | none => s.out == 0

/-- What the registers show of R41 item 6: while `FC` ≠ 0 no target has been redrawn since the last commit,
so each output is on exactly when its counter is below its target. (At `FC` = 0 the targets of that commit
are no longer in State.) -/
def outputsAgree (s : State) : Bool :=
  s.fc == 0 ||
    (s.level .ch0 == decide (s.cnt0.toNat < s.tgt0.toNat) &&
      s.level .ch1 == decide (s.cnt1.toNat < s.tgt1.toNat))

/-- The invariants of R41 between invocations: items 1 to 5 (2, `HIGH − LOW ≥ 30`, follows from 1) and what
the registers show of item 6, together with R31 (`GIE` stays 1) and R33 (the port is a latch), for a run
whose turns are all the hardware's own. -/
def reachable (s : State) : Bool :=
  settled s
    && s.cnt0 == s.cnt1
    && decide (s.fc.toNat ≤ 2929)
    && decide (s.tgt0.toNat ≤ 254)
    && decide (s.tgt1.toNat ≤ 254)
    && s.gie
    && portHolds s
    && outputsAgree s
    && s.agenda.all hardwareTurn

/-! ## Runs of several instructions, and invocations with the environment inside -/

/-- The meanings of a list of instructions, one after the other, stopping at the first that does not
answer a next state. -/
def execAll : List Instr → State → Result
  | [], s => .next s
  | i :: is, s =>
    match exec i s with
    | .next t => execAll is t
    | .fault r => .fault r
    | .refused r => .refused r

/-- n times the same instruction. -/
def execTimes (i : Instr) (n : Nat) : State → Result :=
  execAll (List.replicate n i)

/-- Environment steps, one after the other. -/
def environments (l : List EnvEvent) (s : State) : State :=
  l.foldl (fun t e => environment e t) s

/-- One invocation with environment steps at every place inside it: before entry, between the four
steps, and before the return (R12, R158). -/
def interleaved (e0 e1 e2 e3 e4 : List EnvEvent) (s : State) : State :=
  let s := enter (environments e0 s)
  let s := environments e1 (pwmStep s)
  let s := environments e2 (frameStep s)
  let s := environments e3 (incStep s)
  leave (environments e4 (edgeStep s))

end Sys2Proof.Safety
end

