-- ==== Sys2Proof/Certificates/Slice0/Obligations.lean ====
section
/-! DEFINITION. The statements for the provers, one `def Obligations.<Name> : Prop` each. A frame is
written `t = { s with f := t.f, … }`: every field of State but those named is unchanged. -/

open Sys2Proof Sys2Proof.Machine Sys2Proof.Safety

/-! ## Encoding -/

/-- Decoding the encoding of an instruction gives it back, with every operand at every value (R82 to
R85), and the encoding is well formed. The format tag and the places of the operands are the model's
choice (log 1, log 3). -/
def Obligations.DecodeOfEncodeIsIdentity : Prop :=
  ∀ i : Instr, decode (encode i) = .ok i ∧ (encode i).wellFormed = true

/-- What the decoder reads as `i` is the encoding of `i`, but for the `L` bit of a slot command with `E`
= 0, which has no effect (R83, R87). The format tag and the places of the operands are the model's
choice (log 1, log 3). -/
def Obligations.DecodedCommandIsTheEncoding : Prop :=
  ∀ (c : Command) (i : Instr), decode c = .ok i →
    c = encode i ∨
    (c.fmt = .slot ∧ c.label.getLsbD 2 = false ∧ c.label.getLsbD 3 = true ∧
      { c with label := c.label - 8 } = encode i)

/-- The decoder accepts exactly the well-formed commands (R81, R84, R87; the format tag and the operand
bytes are the model's choice, log 1, log 3). -/
def Obligations.DecoderAcceptsExactlyWellFormed : Prop :=
  ∀ c : Command, (∃ i, decode c = .ok i) ↔ c.wellFormed = true

/-- Words written out from the tables of R83 and R84 decode to what the tables say. The labels are the
tables'; the format tag beside each (log 1) and the operand bytes of SETTARGET and COMMIT (log 3) are
the model's choice, because the tables give formats and operands no bits. -/
def Obligations.TableWordsDecode : Prop :=
  decode ⟨.evw, 0b1101, 0, 0⟩ = .ok .evPRise ∧
  decode ⟨.evw, 0b0110, 0, 0⟩ = .ok .evIFall ∧
  decode ⟨.slot, 0b1100, 0, 0⟩ = .ok .slotRise ∧
  decode ⟨.slot, 0b0001, 0, 0⟩ = .ok .slotP ∧
  decode ⟨.opn, 3, 1, 200⟩ = .ok (.setTarget .ch1 200) ∧
  decode ⟨.opn, 4, 0, 1⟩ = .ok (.commit false true) ∧
  decode ⟨.opn, 17, 0, 0⟩ = .ok .incStep ∧
  decode ⟨.opn, 18, 0, 0⟩ = .ok .edgeStep ∧
  decode ⟨.opn, 19, 0, 0⟩ = .ok .dispatch ∧
  decode ⟨.opn, 22, 0, 0⟩ = .ok .start

/-- Operation numbers 23 to 31 are refused, by the decoder and by a step that is presented with one,
whatever the operand bytes (R87). That a command can be presented at all, and then stops the step, is
the model's choice (log 4, log 20); so is the format tag (log 1). -/
def Obligations.UnassignedOperationNumbersAreRefused : Prop :=
  ∀ (s : State) (n a b : Byte) (rest : List Turn), 23 ≤ n.toNat → n.toNat ≤ 31 →
    decode ⟨.opn, n, a, b⟩ = .error .unassigned ∧
    step { s with agenda := .command ⟨.opn, n, a, b⟩ :: rest } = .refused (.undecodable .unassigned)

/-- All 16 event words are legal, and with `E` = 0 the `L` bit has no effect: the four words with `L` =
1 and `E` = 0 mean what their canonical words mean (R87). The format tag beside the word is the model's
choice (log 1). -/
def Obligations.EventWordsAreLegalAndLIsIgnoredWithoutE : Prop :=
  (∀ w : EventWord, ∃ i, decode ⟨.evw, w.setWidth 8, 0, 0⟩ = .ok i) ∧
  ∀ s : State,
    exec .evNoneL s = exec .evNone s ∧ exec .evPL s = exec .evP s ∧
    exec .evIL s = exec .evI s ∧ exec .evPIL s = exec .evPI s

/-! ## Steps -/

/-- A command at the head of the agenda that decodes to `i` is run as `i`, with that turn taken off; and
`withFetchWord` places such a command, of which the decoder reads what `decodeTableWord` says. The
agenda and the reading of a bare table word are the model's choice (log 2, log 4). -/
def Obligations.StepRunsTheDecodedInstruction : Prop :=
  (∀ (s : State) (c : Command) (rest : List Turn) (i : Instr),
    s.agenda = .command c :: rest → decode c = .ok i →
    step s = exec i { s with agenda := rest }) ∧
  (∀ (s : State) (nbits w : Nat) (i : Instr),
    decodeTableWord nbits w = some i → step (s.withFetchWord nbits w) = exec i s)

/-- The environment's steps: a timer overflow sets its flag and nothing else, a pin transition toggles
`PIN` and sets `IF.EDGE` and nothing else, whatever `GIE` and `IS` are (R30, R31, R173 to R175). That
these steps come from the agenda is the model's choice (log 4). -/
def Obligations.EnvironmentStepsSetTheirFlags : Prop :=
  ∀ (s : State) (rest : List Turn),
    step { s with agenda := .env .timer0 :: rest } =
      .next { s with agenda := rest, pend := { s.pend with t0 := true } } ∧
    step { s with agenda := .env .timer1 :: rest } =
      .next { s with agenda := rest, pend := { s.pend with t1 := true } } ∧
    step { s with agenda := .env .pinEdge :: rest } =
      .next { s with agenda := rest, pin := !s.pin, pend := { s.pend with edge := true } }

/-- On the Dispatcher's turn an invocation runs exactly when `GIE` = 1, `IS` = 0 and a bit of `IF` is 1;
otherwise nothing changes (R31, R32, R155, R159). That an empty agenda is such a turn too is the model's
choice (log 4). -/
def Obligations.InvocationBeginsExactlyWhenAllowed : Prop :=
  ∀ (s : State) (rest : List Turn),
    ((s.gie = true ∧ s.inService = false ∧ (s.pend.t0 = true ∨ s.pend.t1 = true ∨ s.pend.edge = true)) →
      step { s with agenda := .dispatcher :: rest } = exec .dispatch { s with agenda := rest } ∧
      step { s with agenda := [] } = exec .dispatch { s with agenda := [] }) ∧
    (¬ (s.gie = true ∧ s.inService = false ∧ (s.pend.t0 = true ∨ s.pend.t1 = true ∨ s.pend.edge = true)) →
      step { s with agenda := .dispatcher :: rest } = .next { s with agenda := rest } ∧
      step { s with agenda := [] } = .next { s with agenda := [] })

/-- Every operation completes on every value of every register (R170), and a step stops only on a
presented command that names no operation (R87; that it stops there is the model's choice, log 20). -/
def Obligations.EveryOperationCompletes : Prop :=
  (∀ (i : Instr) (s : State), ∃ t, exec i s = .next t) ∧
  (∀ s : State, (∃ t, step s = .next t) ∨
    ∃ c rest why, s.agenda = .command c :: rest ∧ decode c = .error why ∧
      step s = .refused (.undecodable why))

/-! ## RandomGenerator -/

/-- SEED writes `SEED0`, of which nothing is known (the free value `Config.seed0`, log 5), and no other
register (R100). -/
def Obligations.SeedWritesSeedZeroOnly : Prop :=
  ∀ s : State, exec .seed s =
    .next { s with seed := Config.seed0 s.seedings, seedings := s.seedings + 1 }

/-- NEXTBYTE writes `(SEED × 1103515245 + 12345) mod 2^32` and returns bits 23..16 of it; that the
result is left in `ret` is the model's choice (R101; log 12). -/
def Obligations.NextByteAdvancesSeedAndReturnsItsByte : Prop :=
  ∀ s : State, ∃ t, exec .nextByte s = .next t ∧
    t.seed.toNat = (s.seed.toNat * 1103515245 + 12345) % 2 ^ 32 ∧
    t.ret.toNat = t.seed.toNat / 2 ^ 16 % 256 ∧
    t = { s with seed := t.seed, ret := t.ret }

/-- The seed recurrence is a bijection on 32-bit values without a fixed point (R102, there marked as
derived from R101). -/
def Obligations.SeedRecurrenceIsBijectiveWithoutFixedPoint : Prop :=
  (∀ x : Seed, lcgNext x ≠ x) ∧ Function.Bijective lcgNext

/-- The successive results of R104 ("Derived from rule R101", the spec's own inference), row by row, and
what its last row shows: bit 31 of the seed never reaches the returned byte. -/
def Obligations.SuccessiveGeneratorResults : Prop :=
  let row (x y : Seed) (b : Byte) : Prop := lcgNext x = y ∧ seedByte (lcgNext x) = b
  row 0x00000000 0x00003039 0 ∧ row 0x00003039 0xD3DC167E 220 ∧
  row 0xD3DC167E 0xA70427DF 4 ∧ row 0xA70427DF 0xD6651C2C 101 ∧
  row 0xD6651C2C 0x0DAA96F5 170 ∧ row 0x0DAA96F5 0xC21F1C8A 31 ∧
  row 0x12345678 0x0B719151 113 ∧ row 0x0B719151 0x6F47BDB6 71 ∧
  row 0x6F47BDB6 0x2E1D6AB7 29 ∧ row 0x2E1D6AB7 0x99946224 148 ∧
  row 0x80000000 0x80003039 0 ∧
  ∀ x : Seed, seedByte (lcgNext (x ^^^ 0x80000000)) = seedByte (lcgNext x)

/-- Two states whose seeds agree in bits 23..0 return the same bytes for ever, however often NEXTBYTE is
run: bits 31..24 never reach a result (R101, and the remark after the chains of `95_test_vectors.md`
section 4.1). -/
def Obligations.HighSeedBitsNeverReachAByte : Prop :=
  ∀ (s t : State) (n : Nat), s.seed.toNat % 2 ^ 24 = t.seed.toNat % 2 ^ 24 →
    ∃ s' t', execTimes .nextByte (n + 1) s = .next s' ∧ execTimes .nextByte (n + 1) t = .next t' ∧
      s'.ret = t'.ret

/-! ## PwmChannel -/

/-- TICK(ch): the counter goes on by one modulo 256, and the level is the unsigned comparison of the
counter after the increment with the target; the other channel, the port and all else stay. That the
level is left in `ret` is the model's choice (R110; log 12). -/
def Obligations.TickCountsAndCompares : Prop :=
  ∀ (s : State) (ch : Channel), ∃ t, exec (.tick ch) s = .next t ∧
    (t.cnt ch).toNat = ((s.cnt ch).toNat + 1) % 256 ∧
    (∀ ch', ch' ≠ ch → t.cnt ch' = s.cnt ch') ∧
    t.ret = (if (t.cnt ch).toNat < (s.tgt ch).toNat then 1 else 0) ∧
    t = { s with cnt0 := t.cnt0, cnt1 := t.cnt1, ret := t.ret }

/-- SETTARGET(ch, v) writes `TGT[ch]` and nothing else, for every 8-bit v (R111). -/
def Obligations.SetTargetWritesTheTargetOnly : Prop :=
  ∀ (s : State) (v : Byte),
    exec (.setTarget .ch0 v) s = .next { s with tgt0 := v } ∧
    exec (.setTarget .ch1 v) s = .next { s with tgt1 := v }

/-- COMMIT(o1, o0) sets both bits of the port in one write and changes no other register; one output
event is recorded, whether or not the value changes (R63, R112). -/
def Obligations.CommitWritesBothLevelsAtOnce : Prop :=
  ∀ (s : State) (o1 o0 : Bool), ∃ t, exec (.commit o1 o0) s = .next t ∧
    t.out.getLsbD 1 = o1 ∧ t.out.getLsbD 0 = o0 ∧
    t.trace = s.trace ++ [.out o1 o0] ∧
    t = { s with out := t.out, trace := t.trace }

/-- The output predicate (R113, the spec's own inference from R110 to R112): right after the commit of a
serviced PWM tick each output is on exactly when its counter is below its target; SETTARGET leaves the
port as it was; and after a cold start the port is `0b00` although both counters are below their
targets. -/
def Obligations.OutputPredicateHoldsAtCommits : Prop :=
  (∀ (s : State) (ch : Channel), s.pend.t0 = true → ∃ t, exec .pwmStep s = .next t ∧
    (t.level ch = true ↔ (t.cnt ch).toNat < (t.tgt ch).toNat)) ∧
  (∀ (s : State) (ch : Channel) (v : Byte), ∃ t, exec (.setTarget ch v) s = .next t ∧ t.out = s.out) ∧
  (∀ (x : Seed) (f : Pending) (p : Bool) (ch : Channel),
    (State.cold x f p).out = 0b00 ∧
    ((State.cold x f p).cnt ch).toNat < ((State.cold x f p).tgt ch).toNat)

/-- Duty over one counter period (R114, the spec's own inference), through the Dispatcher and the event
word `D P` (log 9): over 256 serviced PWM ticks with no frame tick before the last commit, output i is
on after exactly `TGT[i]` of the 256 commits, and the counters are back where they were. Left out: 256
ticks across a frame tick that happens to redraw the same target. -/
def Obligations.DutyOverOneCounterPeriod : Prop :=
  ∀ s : State, s.gie = true → s.inService = false → s.pend = ⟨false, false, false⟩ →
    s.fc.toNat + 256 ≤ 2930 →
    ∃ t l, execTimes .evP 256 s = .next t ∧ t.trace = s.trace ++ l ∧ l.length = 256 ∧
      l.countP (fun e => match e with | .out _ o0 => o0 | .t1restart => false) = s.tgt0.toNat ∧
      l.countP (fun e => match e with | .out o1 _ => o1 | .t1restart => false) = s.tgt1.toNat ∧
      t.cnt0 = s.cnt0 ∧ t.cnt1 = s.cnt1

/-- The port is a latch (R33): an instruction other than RESET that changes `OUT` has recorded a commit
as its last output event but for restarts, and the port holds that commit's levels; a step of the
environment changes neither. -/
def Obligations.OnlyCommitsChangeThePort : Prop :=
  (∀ (i : Instr) (s t : State), i ≠ .reset → exec i s = .next t → t.out ≠ s.out →
    ∃ l o1 o0, t.trace = s.trace ++ l ∧ lastCommit l = some (o1, o0) ∧
      t.level .ch1 = o1 ∧ t.level .ch0 = o0) ∧
  (∀ (e : EnvEvent) (s : State) (rest : List Turn), ∃ t,
    step { s with agenda := .env e :: rest } = .next t ∧ t.out = s.out ∧ t.trace = s.trace)

/-! ## BrightnessController -/

/-- EDGES: `LOW = (25 × BRIGHT) >> 7` and `HIGH = ((113 × BRIGHT) >> 7) + 30`, with no clipping, and
nothing else changes (R120). -/
def Obligations.EdgesFollowTheFormula : Prop :=
  ∀ s : State, ∃ t, exec .edges s = .next t ∧
    t.low.toNat = 25 * s.bright.toNat / 128 ∧
    t.high.toNat = 113 * s.bright.toNat / 128 + 30 ∧
    t = { s with low := t.low, high := t.high }

/-- The gap between the edges (R124, the spec's own inference from R120): at least 30 for every
brightness, exactly 30 at 0 and 1, at most 206, which it is at 255; both edges are non-decreasing, the
gap is not (83 at 76, 82 at 77); and no brightness makes the edges equal. -/
def Obligations.EdgeGapIsAtLeastThirty : Prop :=
  let gap (b : Byte) : Int := ((highEdge b).toNat : Int) - ((lowEdge b).toNat : Int)
  (∀ b : Byte, 30 ≤ gap b ∧ gap b ≤ 206 ∧ highEdge b ≠ lowEdge b) ∧
  gap 0 = 30 ∧ gap 1 = 30 ∧ gap 255 = 206 ∧
  (∀ a b : Byte, a.toNat ≤ b.toNat →
    (lowEdge a).toNat ≤ (lowEdge b).toNat ∧ (highEdge a).toNat ≤ (highEdge b).toNat) ∧
  gap 76 = 83 ∧ gap 77 = 82

/-- INCREMENT: below 255 one up with the edges recomputed, at 255 nothing at all (R122). -/
def Obligations.IncrementClampsAtTheCeiling : Prop :=
  ∀ s : State,
    (s.bright.toNat < 255 → ∃ t, exec .increment s = .next t ∧
      t.bright.toNat = s.bright.toNat + 1 ∧
      t.low.toNat = 25 * (s.bright.toNat + 1) / 128 ∧
      t.high.toNat = 113 * (s.bright.toNat + 1) / 128 + 30 ∧
      t = { s with bright := t.bright, low := t.low, high := t.high }) ∧
    (s.bright.toNat = 255 → exec .increment s = .next s)

/-- DECREMENT: above 0 one down with the edges recomputed, at 0 nothing at all (R123). -/
def Obligations.DecrementClampsAtTheFloor : Prop :=
  ∀ s : State,
    (0 < s.bright.toNat → ∃ t, exec .decrement s = .next t ∧
      t.bright.toNat = s.bright.toNat - 1 ∧
      t.low.toNat = 25 * (s.bright.toNat - 1) / 128 ∧
      t.high.toNat = 113 * (s.bright.toNat - 1) / 128 + 30 ∧
      t = { s with bright := t.bright, low := t.low, high := t.high }) ∧
    (s.bright.toNat = 0 → exec .decrement s = .next s)

/-- n INCREMENTs raise the brightness by n, clamped at 255, and n DECREMENTs lower it by n, clamped at
0: neither wraps (R122, R123). -/
def Obligations.RepeatedBrightnessChangesClamp : Prop :=
  ∀ (s : State) (n : Nat),
    (∃ t, execTimes .increment n s = .next t ∧ t.bright.toNat = min 255 (s.bright.toNat + n)) ∧
    (∃ t, execTimes .decrement n s = .next t ∧ t.bright.toNat = s.bright.toNat - n)

/-- One instruction changes the brightness by at most two up or one down, RESET apart; and every
instruction but an invocation (DISPATCH or an event word) and RESET raises it by at most one, so that
only an invocation can raise it by two (R125, the spec's own inference). -/
def Obligations.BrightnessMovesByAtMostTwo : Prop :=
  (∀ (i : Instr) (s t : State), i ≠ .reset → exec i s = .next t →
    t.bright.toNat ≤ s.bright.toNat + 2 ∧ s.bright.toNat ≤ t.bright.toNat + 1) ∧
  (∀ (i : Instr) (s t : State),
    i ∉ [.dispatch, .evNone, .evP, .evI, .evPI, .evFall, .evPFall, .evIFall, .evPIFall, .evNoneL, .evPL,
      .evIL, .evPIL, .evRise, .evPRise, .evIRise, .evPIRise, .reset] →
    exec i s = .next t → t.bright.toNat ≤ s.bright.toNat + 1)

/-! ## FlickerScheduler -/

/-- DRAW returns `LOW + (r mod d)` with r the next byte of the generator and d the edge gap, taken as 1
where the gap is below 1, so that the result is then `LOW`; `SEED` advances one step either way, and
nothing else changes (R130, R131; the result's place `ret` is the model's choice, log 12). -/
def Obligations.DrawReducesAByteIntoTheEdges : Prop :=
  ∀ (s : State) (ch : Channel), ∃ t, exec (.draw ch) s = .next t ∧
    t.seed = lcgNext s.seed ∧
    (s.low.toNat < s.high.toNat →
      t.ret.toNat = s.low.toNat + (seedByte (lcgNext s.seed)).toNat % (s.high.toNat - s.low.toNat)) ∧
    (s.high.toNat ≤ s.low.toNat → t.ret = s.low) ∧
    t = { s with seed := t.seed, ret := t.ret }

/-- With edges that agree with the brightness, a draw lies in `[LOW, HIGH)` and is at most 254 (R133,
the spec's own inference). -/
def Obligations.DrawLiesWithinTheEdges : Prop :=
  ∀ (s : State) (ch : Channel), edgesAgree s = true → ∃ t, exec (.draw ch) s = .next t ∧
    s.low.toNat ≤ t.ret.toNat ∧ t.ret.toNat < s.high.toNat ∧ t.ret.toNat ≤ 254

/-- ONFRAMETICK: channel 0 gets the first byte and channel 1 the second, both reduced by the edges from
before the decay; `SEED` advances exactly two steps; the brightness decays by one (with the edges
recomputed) when `HOLD` = 0 and it is above 0, and is untouched otherwise; nothing else changes, `OUT`,
the counters and the frame counter included (R132). -/
def Obligations.FrameTickRedrawsThenDecays : Prop :=
  ∀ s : State, ∃ t, exec .onFrameTick s = .next t ∧
    t.seed = lcgNext (lcgNext s.seed) ∧
    t.tgt0 = drawValue s.low s.high (seedByte (lcgNext s.seed)) ∧
    t.tgt1 = drawValue s.low s.high (seedByte (lcgNext (lcgNext s.seed))) ∧
    ((s.hold = false ∧ 0 < s.bright.toNat) →
      t.bright.toNat = s.bright.toNat - 1 ∧ t.low.toNat = 25 * t.bright.toNat / 128 ∧
      t.high.toNat = 113 * t.bright.toNat / 128 + 30) ∧
    (¬ (s.hold = false ∧ 0 < s.bright.toNat) →
      t.bright = s.bright ∧ t.low = s.low ∧ t.high = s.high) ∧
    t = { s with seed := t.seed, tgt0 := t.tgt0, tgt1 := t.tgt1, bright := t.bright, low := t.low,
                 high := t.high }

/-- Decay (R134): with `HOLD` = 0, n frame ticks lower the brightness by n, down to 0, where it stays;
with `HOLD` = 1 they leave it alone (R146). -/
def Obligations.FrameTicksDecayUnlessHeld : Prop :=
  ∀ (s : State) (n : Nat), ∃ t, execTimes .onFrameTick n s = .next t ∧ t.hold = s.hold ∧
    (s.hold = false → t.bright.toNat = s.bright.toNat - n) ∧
    (s.hold = true → t.bright = s.bright)

/-! ## HoldInputHandler -/

/-- RISE: `HOLD` becomes 1, the brightness goes up by one unless it is 255, one `T1RESTART` event is
recorded; `IF.T1` and all else stay, and it is the same whether or not `HOLD` was 1 (R141, R143). -/
def Obligations.RiseHoldsIncrementsAndRestarts : Prop :=
  ∀ s : State,
    (s.bright.toNat < 255 → ∃ t, exec .rise s = .next t ∧ t.hold = true ∧
      t.bright.toNat = s.bright.toNat + 1 ∧ t.low.toNat = 25 * t.bright.toNat / 128 ∧
      t.high.toNat = 113 * t.bright.toNat / 128 + 30 ∧ t.trace = s.trace ++ [.t1restart] ∧
      t = { s with hold := t.hold, bright := t.bright, low := t.low, high := t.high, trace := t.trace }) ∧
    (s.bright.toNat = 255 →
      exec .rise s = .next { s with hold := true, trace := s.trace ++ [.t1restart] })

/-- FALL writes `HOLD` only; T1RESTART records one event and writes no register (R142, R143). -/
def Obligations.FallAndRestartWriteNothingElse : Prop :=
  ∀ s : State,
    exec .fall s = .next { s with hold := false } ∧
    exec .t1restart s = .next { s with trace := s.trace ++ [.t1restart] }

/-- RAMP is an INCREMENT while `HOLD` = 1 and nothing while `HOLD` = 0 (R144). -/
def Obligations.RampIncrementsOnlyWhileHolding : Prop :=
  ∀ s : State,
    (s.hold = true → ∃ t, exec .ramp s = .next t ∧ exec .increment s = .next t) ∧
    (s.hold = false → exec .ramp s = .next s)

/-- EDGESVC performs RISE when the pin reads 1 and FALL when it reads 0, whatever `HOLD` is; afterwards
`HOLD` is the level that was read, and the pin is untouched (R64, R145). -/
def Obligations.EdgeServiceFollowsThePinLevel : Prop :=
  ∀ s : State, ∃ t, exec .edgeSvc s = .next t ∧ t.hold = s.pin ∧ t.pin = s.pin ∧ t.pend = s.pend ∧
    (s.pin = true → exec .rise s = .next t) ∧
    (s.pin = false → exec .fall s = .next t)

/-- `HOLD` changes only where an edge is serviced. An instruction that changes it is RISE, FALL, RESET,
EDGESVC, an edge slot, an event word with `E` = 1, or, only where `IF.EDGE` was pending, EDGESTEP,
DISPATCH or an event word with `E` = 0; and after any of these but RISE, FALL and RESET it equals the
pin. A step of the environment leaves it (R29, R145, R146, R147, R154; that an event word or slot puts
the pin at its level first is the model's choice, log 9, log 11). -/
def Obligations.HoldChangesOnlyInTheEdgeService : Prop :=
  (∀ (i : Instr) (s t : State), exec i s = .next t → t.hold ≠ s.hold →
    i ∈ [.rise, .fall, .reset] ∨
    (t.hold = t.pin ∧
      (i ∈ [.edgeSvc, .slotRise, .slotFall, .evFall, .evPFall, .evIFall, .evPIFall, .evRise, .evPRise,
        .evIRise, .evPIRise] ∨
      (s.pend.edge = true ∧
        i ∈ [.edgeStep, .dispatch, .evNone, .evP, .evI, .evPI, .evNoneL, .evPL, .evIL, .evPIL])))) ∧
  (∀ (e : EnvEvent) (s : State) (rest : List Turn), ∃ t,
    step { s with agenda := .env e :: rest } = .next t ∧ t.hold = s.hold)

/-! ## InterruptDispatcher -/

/-- PWMSTEP: with `IF.T0` = 1 both counters go on by one, both levels are committed in one write, `FC`
goes on by one up to 4095 and `IF.T0` is cleared; with `IF.T0` = 0 nothing happens (R151). -/
def Obligations.PwmStepServicesTheTick : Prop :=
  ∀ s : State,
    (s.pend.t0 = true → ∃ t, exec .pwmStep s = .next t ∧
      t.cnt0.toNat = (s.cnt0.toNat + 1) % 256 ∧ t.cnt1.toNat = (s.cnt1.toNat + 1) % 256 ∧
      t.level .ch0 = decide (t.cnt0.toNat < s.tgt0.toNat) ∧
      t.level .ch1 = decide (t.cnt1.toNat < s.tgt1.toNat) ∧
      t.trace = s.trace ++ [.out (t.level .ch1) (t.level .ch0)] ∧
      t.fc.toNat = min (s.fc.toNat + 1) 4095 ∧
      t.pend = { s.pend with t0 := false } ∧
      t = { s with cnt0 := t.cnt0, cnt1 := t.cnt1, out := t.out, trace := t.trace, fc := t.fc,
                   pend := t.pend }) ∧
    (s.pend.t0 = false → exec .pwmStep s = .next s)

/-- FRAMESTEP: at `FC` ≥ 2930 a frame tick and `FC` ← 0, below nothing (R152). -/
def Obligations.FrameStepServicesTheFrame : Prop :=
  ∀ s : State,
    (2930 ≤ s.fc.toNat → ∃ t, exec .onFrameTick s = .next t ∧
      exec .frameStep s = .next { t with fc := 0 }) ∧
    (s.fc.toNat < 2930 → exec .frameStep s = .next s)

/-- INCSTEP: with `IF.T1` = 1 an INCREMENT if `HOLD` = 1, and `IF.T1` is cleared regardless; with
`IF.T1` = 0 nothing (R153). -/
def Obligations.IncStepClearsTheFlagRegardless : Prop :=
  ∀ s : State,
    (s.pend.t1 = true → s.hold = true → ∃ t, exec .increment s = .next t ∧
      exec .incStep s = .next { t with pend := { s.pend with t1 := false } }) ∧
    (s.pend.t1 = true → s.hold = false →
      exec .incStep s = .next { s with pend := { s.pend with t1 := false } }) ∧
    (s.pend.t1 = false → exec .incStep s = .next s)

/-- EDGESTEP: with `IF.EDGE` = 1 the edge service, RISE or FALL by the present pin level, and `IF.EDGE`
is cleared; with `IF.EDGE` = 0 nothing, so that `HOLD` is not refreshed from the pin (R154). -/
def Obligations.EdgeStepServicesTheEdge : Prop :=
  ∀ s : State,
    (s.pend.edge = true → ∃ t, exec .edgeSvc s = .next t ∧
      exec (if s.pin then .rise else .fall) s = .next t ∧
      exec .edgeStep s = .next { t with pend := { s.pend with edge := false } }) ∧
    (s.pend.edge = false → exec .edgeStep s = .next s)

/-- DISPATCH sets `IS`, runs S1, S2, S3, S4 once each in that order, and clears `IS` (R150). -/
def Obligations.DispatchRunsTheFourStepsInOrder : Prop :=
  ∀ s : State, ∃ s1 s2 s3 s4,
    exec .pwmStep { s with inService := true } = .next s1 ∧
    exec .frameStep s1 = .next s2 ∧
    exec .incStep s2 = .next s3 ∧
    exec .edgeStep s3 = .next s4 ∧
    exec .dispatch s = .next { s4 with inService := false }

/-- An invocation clears every pending flag, `FC` is at most 2929 after it from any state, and `IS` is
0; `GIE`, `PIN`, the result field, the agenda and the seeding count stay (R30, R150 to R154, R160). -/
def Obligations.DispatchServicesEveryPendingFlag : Prop :=
  ∀ s : State, ∃ t, exec .dispatch s = .next t ∧
    t.pend = ⟨false, false, false⟩ ∧ t.fc.toNat ≤ 2929 ∧ t.inService = false ∧
    t.gie = s.gie ∧ t.pin = s.pin ∧ t.ret = s.ret ∧ t.agenda = s.agenda ∧ t.seedings = s.seedings

/-- A spurious invocation, begun with nothing pending, changes nothing and records nothing, whether
begun by DISPATCH or by the event word `D -` (R156, the spec's own inference; that such a step may run
is the model's choice, log 10). -/
def Obligations.SpuriousInvocationIsANoop : Prop :=
  ∀ s : State, s.pend = ⟨false, false, false⟩ → s.fc.toNat ≤ 2929 → s.inService = false →
    exec .dispatch s = .next s ∧ exec .evNone s = .next s

/-- IDLE changes nothing (R159), and neither does the slot that selects no step body, presented alone.
That the empty slot does nothing in every state is the model's reading (log 11): the word D - runs S2
where FC has reached 2930. -/
def Obligations.IdleTouchesNothing : Prop :=
  ∀ s : State, exec .idle s = .next s ∧ exec .slotNone s = .next s

/-- The step bodies that the slots of an event word select (R83): `P` is S1 for a tick and then S2, `I`
is S3, `E+` and `E-` are S4 with the pin at 1 and at 0. That a slot presents its own flag and level
before its step is the model's reading (log 11), and the format tag beside a slot's label is the model's
choice (log 1). So a slot whose flag is pending, with the pin at its level, does what its step does. -/
def Obligations.SlotsRunTheirStepBodies : Prop :=
  decode ⟨.slot, 0b0001, 0, 0⟩ = .ok .slotP ∧ decode ⟨.slot, 0b0010, 0, 0⟩ = .ok .slotI ∧
  decode ⟨.slot, 0b1100, 0, 0⟩ = .ok .slotRise ∧ decode ⟨.slot, 0b0100, 0, 0⟩ = .ok .slotFall ∧
  ∀ s : State,
    (s.pend.t1 = true → exec .slotI s = exec .incStep s) ∧
    (s.pend.edge = true → s.pin = true → exec .slotRise s = exec .edgeStep s) ∧
    (s.pend.edge = true → s.pin = false → exec .slotFall s = exec .edgeStep s) ∧
    (∃ t u, exec .pwmStep { s with pend := { s.pend with t0 := true } } = .next t ∧
      exec .frameStep t = .next u ∧ exec .slotP s = .next u) ∧
    (∃ t, exec .incStep { s with pend := { s.pend with t1 := true } } = .next t ∧
      exec .slotI s = .next t) ∧
    (∃ t, exec .edgeStep { s with pin := true, pend := { s.pend with edge := true } } = .next t ∧
      exec .slotRise s = .next t) ∧
    (∃ t, exec .edgeStep { s with pin := false, pend := { s.pend with edge := true } } = .next t ∧
      exec .slotFall s = .next t)

/-- The 16 event words (R161, the spec's own inference): from a state that can be interrupted, with
nothing pending and `FC` ≤ 2929, each word runs exactly its slots, in the order P, I, E; a word without
slots changes nothing. That a word puts its flags and its pin level there itself is the model's choice
(log 9). -/
def Obligations.EventWordsRunTheirSlotsInOrder : Prop :=
  ∀ s : State, s.gie = true → s.inService = false → s.pend = ⟨false, false, false⟩ →
    s.fc.toNat ≤ 2929 →
    let runs (i : Instr) (l : List Instr) : Prop := ∃ t, exec i s = .next t ∧ execAll l s = .next t
    runs .evNone [] ∧ runs .evP [.slotP] ∧ runs .evI [.slotI] ∧ runs .evPI [.slotP, .slotI] ∧
    runs .evFall [.slotFall] ∧ runs .evPFall [.slotP, .slotFall] ∧ runs .evIFall [.slotI, .slotFall] ∧
    runs .evPIFall [.slotP, .slotI, .slotFall] ∧
    runs .evNoneL [] ∧ runs .evPL [.slotP] ∧ runs .evIL [.slotI] ∧ runs .evPIL [.slotP, .slotI] ∧
    runs .evRise [.slotRise] ∧ runs .evPRise [.slotP, .slotRise] ∧ runs .evIRise [.slotI, .slotRise] ∧
    runs .evPIRise [.slotP, .slotI, .slotRise]

/-- An invocation is its event word: from a state that can be interrupted, DISPATCH does what the word
with the state's own flags and pin level does (R82, R158). How a word acts, and its format tag, are the
model's choice (log 1, log 9). -/
def Obligations.DispatchIsItsEventWord : Prop :=
  ∀ s : State, s.gie = true → s.inService = false →
    ∃ i t, decode ⟨.evw, (wordOf s.pin s.pend.edge s.pend.t1 s.pend.t0).setWidth 8, 0, 0⟩ = .ok i ∧
      exec i s = .next t ∧ exec .dispatch s = .next t

/-- While `GIE` = 0 or `IS` = 1 no invocation runs: each of the 16 event words then leaves its flags
pending, and the pin at its level `L` when `E` = 1, and changes nothing else (R31, R32). That the word
still sets them, and its format tag, are the model's choice (log 1, log 9, log 10). -/
def Obligations.NoInvocationWhileHeldOff : Prop :=
  ∀ (s : State) (w : EventWord), (s.gie = false ∨ s.inService = true) →
    ∃ i, decode ⟨.evw, w.setWidth 8, 0, 0⟩ = .ok i ∧
      exec i s = .next { s with
        pend := ⟨s.pend.t0 || w.getLsbD 0, s.pend.t1 || w.getLsbD 1, s.pend.edge || w.getLsbD 2⟩
        pin := if w.getLsbD 2 then w.getLsbD 3 else s.pin }

/-- The frame tick is serviced only in an invocation that also services a PWM tick (R160, the spec's own
inference). After an invocation `FC` is at most 2929, from any state. From there, an invocation without
`IF.T0`, and so every event word without `P`, draws no target, leaves `SEED` and `FC`, ticks nothing and
does not decay. -/
def Obligations.NoFrameTickWithoutAPwmTick : Prop :=
  (∀ s : State, ∃ t, exec .dispatch s = .next t ∧ t.fc.toNat ≤ 2929) ∧
  ∀ (s : State) (i : Instr), s.fc.toNat ≤ 2929 → s.pend.t0 = false →
    i ∈ [.dispatch, .evNone, .evI, .evFall, .evIFall, .evNoneL, .evIL, .evRise, .evIRise] →
    ∃ t, exec i s = .next t ∧
      t.seed = s.seed ∧ t.tgt0 = s.tgt0 ∧ t.tgt1 = s.tgt1 ∧ t.fc = s.fc ∧
      t.cnt0 = s.cnt0 ∧ t.cnt1 = s.cnt1 ∧ t.out = s.out ∧ s.bright.toNat ≤ t.bright.toNat

/-- Serialisation within one invocation (R157): the decay and the ramp look at the `HOLD` of before, and
the edge comes last. A press that arrives with a frame tick is decayed first and then incremented; a
release that arrives with it escapes the decay; an increment tick that comes with a press does nothing,
and one that comes with a release still increments. The pairs are event words (log 9). -/
def Obligations.StepsSeeTheHoldOfBefore : Prop :=
  ∀ s : State, s.gie = true → s.inService = false → s.pend = ⟨false, false, false⟩ →
    0 < s.bright.toNat → s.bright.toNat < 255 →
    (s.fc.toNat = 2929 → s.hold = false →
      ∃ t, exec .evPRise s = .next t ∧ t.bright = s.bright ∧ t.hold = true) ∧
    (s.fc.toNat = 2929 → s.hold = true →
      ∃ t, exec .evPFall s = .next t ∧ t.bright = s.bright ∧ t.hold = false) ∧
    (s.fc.toNat < 2929 → s.hold = false →
      ∃ t, exec .evIRise s = .next t ∧ t.bright.toNat = s.bright.toNat + 1 ∧ t.hold = true) ∧
    (s.fc.toNat < 2929 → s.hold = true →
      ∃ t, exec .evIFall s = .next t ∧ t.bright.toNat = s.bright.toNat + 1 ∧ t.hold = false)

/-- One frame (R151, R152, R160): from any frame count, PWM ticks with no edge or increment event count
up and leave the targets, the seed and the brightness alone until the one that brings `FC` to 2930; that
one runs exactly one frame tick and leaves `FC` at 0. Each tick is the event word `D P` (log 9). -/
def Obligations.OneFrameTickPerFrameOfPwmTicks : Prop :=
  ∀ s : State, s.gie = true → s.inService = false → s.pend = ⟨false, false, false⟩ →
    s.fc.toNat ≤ 2929 →
    (∀ k, k < 2930 - s.fc.toNat → ∃ t, execTimes .evP k s = .next t ∧ t.fc.toNat = s.fc.toNat + k ∧
      t.seed = s.seed ∧ t.tgt0 = s.tgt0 ∧ t.tgt1 = s.tgt1 ∧ t.bright = s.bright ∧
      t.cnt0.toNat = (s.cnt0.toNat + k) % 256 ∧ t.trace.length = s.trace.length + k) ∧
    ∃ t, execTimes .evP (2930 - s.fc.toNat) s = .next t ∧ t.fc = 0 ∧
      t.seed = lcgNext (lcgNext s.seed) ∧
      t.tgt0 = drawValue s.low s.high (seedByte (lcgNext s.seed)) ∧
      t.tgt1 = drawValue s.low s.high (seedByte (lcgNext (lcgNext s.seed))) ∧
      t.bright.toNat = s.bright.toNat - (if s.hold then 0 else 1) ∧
      t.cnt0.toNat = (s.cnt0.toNat + (2930 - s.fc.toNat)) % 256

/-- Taking an invocation as one step loses no behaviour (R158, the spec's own inference; log 14).
Environment steps at every place inside an invocation have the effect of the same steps before and after
it: a flag set before its step tests it belongs before, one set after its step has cleared it belongs
after (`IF.T0` is tested by S1, `IF.T1` by S3, `IF.EDGE` and the pin by S4). -/
def Obligations.AtomicInvocationLosesNoBehaviour : Prop :=
  ∀ (e0 e1 e2 e3 e4 : List EnvEvent) (s : State), ∃ t,
    exec .dispatch (environments
      (e0 ++ e1.filter (· ≠ .timer0) ++ e2.filter (· ≠ .timer0) ++ e3.filter (· = .pinEdge)) s) = .next t ∧
    interleaved e0 e1 e2 e3 e4 s = environments
      (e1.filter (· = .timer0) ++ e2.filter (· = .timer0) ++ e3.filter (· ≠ .pinEdge) ++ e4) t

/-! ## Boot, reset and invariants -/

/-- RESET writes the cold-start defaults and leaves `SEED`, `IF`, `GIE` and `PIN` alone (R202; the
values of `LOW`, `HIGH`, `IS` and `OUT` are the spec's own decisions D10, D11, D14, log 15; the format
tag beside its number is the model's choice, log 1). -/
def Obligations.ResetWritesTheColdStartDefaults : Prop :=
  decode ⟨.opn, 21, 0, 0⟩ = .ok .reset ∧
  ∀ s : State, exec .reset s = .next
    { s with bright := 0, low := 0, high := 30, cnt0 := 0, cnt1 := 0, tgt0 := 1, tgt1 := 1, fc := 0,
             hold := false, inService := false, out := 0b00 }

/-- START sets `GIE` and nothing else, and nothing ever clears it again (R31, R205): no step from a
state with `GIE` = 1 leads to one with `GIE` = 0. -/
def Obligations.StartEnablesInterruptsForEver : Prop :=
  (∀ s : State, exec .start s = .next { s with gie := true }) ∧
  (∀ s t : State, s.gie = true → step s = .next t → t.gie = true)

/-- Boot (R201): from power-on with any register contents and the environment's flags and pin, the three
boot operations lead to the cold-start state of R40 with `SEED` at `SEED0` and `IF` as the environment
left it. That Boot is three commands of the agenda is the model's choice (log 18). -/
def Obligations.BootLeadsToTheColdStartState : Prop :=
  ∀ s : State, ∃ s1 s2, step s.powerOn = .next s1 ∧ s1.gie = false ∧ step s1 = .next s2 ∧
    s2.gie = false ∧
    step s2 = .next { State.cold (Config.seed0 s.seedings) s.pend s.pin with
      ret := s.ret, seedings := s.seedings + 1, agenda := s.agenda }

/-- The registers after a cold start, for every `SEED0`, `IF_RESET` and pin level (R40; `LOW`, `HIGH`,
`IS`, `GIE` and `OUT` are the spec's own decisions D10, D11, D14, log 15). -/
def Obligations.ColdStartRegisterValues : Prop :=
  ∀ (x : Seed) (f : Pending) (p : Bool),
    let s := State.cold x f p
    s.bright = 0 ∧ s.low = 0 ∧ s.high = 30 ∧ s.cnt0 = 0 ∧ s.cnt1 = 0 ∧ s.tgt0 = 1 ∧ s.tgt1 = 1 ∧
    s.fc = 0 ∧ s.seed = x ∧ s.hold = false ∧ s.pend = f ∧ s.gie = true ∧ s.inService = false ∧
    s.out = 0b00 ∧ s.pin = p

/-- Every cold start, and reset with it, satisfies `settled` and `reachable`, the invariants of the two
statements after this one; the values of reset that the spec leaves open are the model's choice (log 6,
log 7, log 8). -/
def Obligations.ColdStartSatisfiesTheInvariants : Prop :=
  (∀ (x : Seed) (f : Pending) (p : Bool),
    settled (State.cold x f p) = true ∧ reachable (State.cold x f p) = true) ∧
  settled State.reset = true ∧ reachable State.reset = true

/-- Every step, whatever instruction it runs, keeps the duty edges in agreement with the brightness and
leaves no invocation in progress (R24, R32, R41 item 1). -/
def Obligations.EveryStepKeepsEdgesAndInServiceSettled : Prop :=
  ∀ s t : State, settled s = true → step s = .next t → settled t = true

/-- A run whose turns are the hardware's own (environment steps, the Dispatcher's turns, event words)
never stops, and every step keeps the invariants of R41, items 1 to 5 and of item 6 that each output
agrees with its counter and target while `FC` ≠ 0, with the port latched (R33) and `GIE` = 1 (R31). The
agenda that holds those turns is the model's choice (log 4). -/
def Obligations.HardwareRunsKeepTheInvariants : Prop :=
  ∀ s : State, reachable s = true → ∃ t, step s = .next t ∧ reachable t = true

/-! ## Register names and trace lines -/

/-- The 15 registers have 15 different indices below 15, and a forced register reads back what was
written, reduced to its width (R62, R88). That a value too wide for its register is reduced is the
model's choice (log 22); the rules speak of values that fit. -/
def Obligations.RegistersReadBackWhatIsForced : Prop :=
  (∀ r : Reg, regIndex r < 15) ∧ Function.Injective regIndex ∧
  ∀ (s : State) (r : Reg) (v : Nat), readReg (forceReg r v s) r = v % 2 ^ regWidth r
end

