-- ==== Sys2Proof/Laws/Config.lean ====
section
/-! SUPPORT. The constants as numerals, for simp. -/

namespace Sys2Proof.Config

@[simp] theorem frameDelay_eq : frameDelay = 2930 := rfl
@[simp] theorem lcgA_eq : lcgA = 1103515245 := rfl
@[simp] theorem lcgC_eq : lcgC = 12345 := rfl
@[simp] theorem lowNum_eq : lowNum = 25 := rfl
@[simp] theorem highNum_eq : highNum = 113 := rfl
@[simp] theorem edgeDen_eq : edgeDen = 128 := rfl
@[simp] theorem highOfs_eq : highOfs = 30 := rfl
@[simp] theorem brightMax_eq : brightMax = 255 := rfl
@[simp] theorem brightMin_eq : brightMin = 0 := rfl
@[simp] theorem cntMod_eq : cntMod = 256 := rfl
@[simp] theorem tgtReset_eq : tgtReset = 1 := rfl
@[simp] theorem fcMax_eq : fcMax = 4095 := rfl

end Sys2Proof.Config
end

