-- ==== Sys2Proof/Laws/State.lean ====
section
/-! SUPPORT. One lemma per field and per update of State, so that no proof unfolds a record update. -/

namespace Sys2Proof.Machine

/-! `setBright` -/

@[simp] theorem State.setBright_bright (s : State) (v : Byte) : (s.setBright v).bright = v := rfl
@[simp] theorem State.setBright_low (s : State) (v : Byte) : (s.setBright v).low = s.low := rfl
@[simp] theorem State.setBright_high (s : State) (v : Byte) : (s.setBright v).high = s.high := rfl
@[simp] theorem State.setBright_cnt0 (s : State) (v : Byte) : (s.setBright v).cnt0 = s.cnt0 := rfl
@[simp] theorem State.setBright_cnt1 (s : State) (v : Byte) : (s.setBright v).cnt1 = s.cnt1 := rfl
@[simp] theorem State.setBright_tgt0 (s : State) (v : Byte) : (s.setBright v).tgt0 = s.tgt0 := rfl
@[simp] theorem State.setBright_tgt1 (s : State) (v : Byte) : (s.setBright v).tgt1 = s.tgt1 := rfl
@[simp] theorem State.setBright_fc (s : State) (v : Byte) : (s.setBright v).fc = s.fc := rfl
@[simp] theorem State.setBright_seed (s : State) (v : Byte) : (s.setBright v).seed = s.seed := rfl
@[simp] theorem State.setBright_hold (s : State) (v : Byte) : (s.setBright v).hold = s.hold := rfl
@[simp] theorem State.setBright_pend (s : State) (v : Byte) : (s.setBright v).pend = s.pend := rfl
@[simp] theorem State.setBright_gie (s : State) (v : Byte) : (s.setBright v).gie = s.gie := rfl
@[simp] theorem State.setBright_inService (s : State) (v : Byte) : (s.setBright v).inService = s.inService := rfl
@[simp] theorem State.setBright_out (s : State) (v : Byte) : (s.setBright v).out = s.out := rfl
@[simp] theorem State.setBright_pin (s : State) (v : Byte) : (s.setBright v).pin = s.pin := rfl
@[simp] theorem State.setBright_trace (s : State) (v : Byte) : (s.setBright v).trace = s.trace := rfl
@[simp] theorem State.setBright_ret (s : State) (v : Byte) : (s.setBright v).ret = s.ret := rfl
@[simp] theorem State.setBright_seedings (s : State) (v : Byte) : (s.setBright v).seedings = s.seedings := rfl
@[simp] theorem State.setBright_agenda (s : State) (v : Byte) : (s.setBright v).agenda = s.agenda := rfl

/-! `setEdges` -/

@[simp] theorem State.setEdges_bright (s : State) (l h : Byte) : (s.setEdges l h).bright = s.bright := rfl
@[simp] theorem State.setEdges_low (s : State) (l h : Byte) : (s.setEdges l h).low = l := rfl
@[simp] theorem State.setEdges_high (s : State) (l h : Byte) : (s.setEdges l h).high = h := rfl
@[simp] theorem State.setEdges_cnt0 (s : State) (l h : Byte) : (s.setEdges l h).cnt0 = s.cnt0 := rfl
@[simp] theorem State.setEdges_cnt1 (s : State) (l h : Byte) : (s.setEdges l h).cnt1 = s.cnt1 := rfl
@[simp] theorem State.setEdges_tgt0 (s : State) (l h : Byte) : (s.setEdges l h).tgt0 = s.tgt0 := rfl
@[simp] theorem State.setEdges_tgt1 (s : State) (l h : Byte) : (s.setEdges l h).tgt1 = s.tgt1 := rfl
@[simp] theorem State.setEdges_fc (s : State) (l h : Byte) : (s.setEdges l h).fc = s.fc := rfl
@[simp] theorem State.setEdges_seed (s : State) (l h : Byte) : (s.setEdges l h).seed = s.seed := rfl
@[simp] theorem State.setEdges_hold (s : State) (l h : Byte) : (s.setEdges l h).hold = s.hold := rfl
@[simp] theorem State.setEdges_pend (s : State) (l h : Byte) : (s.setEdges l h).pend = s.pend := rfl
@[simp] theorem State.setEdges_gie (s : State) (l h : Byte) : (s.setEdges l h).gie = s.gie := rfl
@[simp] theorem State.setEdges_inService (s : State) (l h : Byte) : (s.setEdges l h).inService = s.inService := rfl
@[simp] theorem State.setEdges_out (s : State) (l h : Byte) : (s.setEdges l h).out = s.out := rfl
@[simp] theorem State.setEdges_pin (s : State) (l h : Byte) : (s.setEdges l h).pin = s.pin := rfl
@[simp] theorem State.setEdges_trace (s : State) (l h : Byte) : (s.setEdges l h).trace = s.trace := rfl
@[simp] theorem State.setEdges_ret (s : State) (l h : Byte) : (s.setEdges l h).ret = s.ret := rfl
@[simp] theorem State.setEdges_seedings (s : State) (l h : Byte) : (s.setEdges l h).seedings = s.seedings := rfl
@[simp] theorem State.setEdges_agenda (s : State) (l h : Byte) : (s.setEdges l h).agenda = s.agenda := rfl

/-! `setFc` -/

@[simp] theorem State.setFc_bright (s : State) (v : FrameCount) : (s.setFc v).bright = s.bright := rfl
@[simp] theorem State.setFc_low (s : State) (v : FrameCount) : (s.setFc v).low = s.low := rfl
@[simp] theorem State.setFc_high (s : State) (v : FrameCount) : (s.setFc v).high = s.high := rfl
@[simp] theorem State.setFc_cnt0 (s : State) (v : FrameCount) : (s.setFc v).cnt0 = s.cnt0 := rfl
@[simp] theorem State.setFc_cnt1 (s : State) (v : FrameCount) : (s.setFc v).cnt1 = s.cnt1 := rfl
@[simp] theorem State.setFc_tgt0 (s : State) (v : FrameCount) : (s.setFc v).tgt0 = s.tgt0 := rfl
@[simp] theorem State.setFc_tgt1 (s : State) (v : FrameCount) : (s.setFc v).tgt1 = s.tgt1 := rfl
@[simp] theorem State.setFc_fc (s : State) (v : FrameCount) : (s.setFc v).fc = v := rfl
@[simp] theorem State.setFc_seed (s : State) (v : FrameCount) : (s.setFc v).seed = s.seed := rfl
@[simp] theorem State.setFc_hold (s : State) (v : FrameCount) : (s.setFc v).hold = s.hold := rfl
@[simp] theorem State.setFc_pend (s : State) (v : FrameCount) : (s.setFc v).pend = s.pend := rfl
@[simp] theorem State.setFc_gie (s : State) (v : FrameCount) : (s.setFc v).gie = s.gie := rfl
@[simp] theorem State.setFc_inService (s : State) (v : FrameCount) : (s.setFc v).inService = s.inService := rfl
@[simp] theorem State.setFc_out (s : State) (v : FrameCount) : (s.setFc v).out = s.out := rfl
@[simp] theorem State.setFc_pin (s : State) (v : FrameCount) : (s.setFc v).pin = s.pin := rfl
@[simp] theorem State.setFc_trace (s : State) (v : FrameCount) : (s.setFc v).trace = s.trace := rfl
@[simp] theorem State.setFc_ret (s : State) (v : FrameCount) : (s.setFc v).ret = s.ret := rfl
@[simp] theorem State.setFc_seedings (s : State) (v : FrameCount) : (s.setFc v).seedings = s.seedings := rfl
@[simp] theorem State.setFc_agenda (s : State) (v : FrameCount) : (s.setFc v).agenda = s.agenda := rfl

/-! `setSeed` -/

@[simp] theorem State.setSeed_bright (s : State) (v : Seed) : (s.setSeed v).bright = s.bright := rfl
@[simp] theorem State.setSeed_low (s : State) (v : Seed) : (s.setSeed v).low = s.low := rfl
@[simp] theorem State.setSeed_high (s : State) (v : Seed) : (s.setSeed v).high = s.high := rfl
@[simp] theorem State.setSeed_cnt0 (s : State) (v : Seed) : (s.setSeed v).cnt0 = s.cnt0 := rfl
@[simp] theorem State.setSeed_cnt1 (s : State) (v : Seed) : (s.setSeed v).cnt1 = s.cnt1 := rfl
@[simp] theorem State.setSeed_tgt0 (s : State) (v : Seed) : (s.setSeed v).tgt0 = s.tgt0 := rfl
@[simp] theorem State.setSeed_tgt1 (s : State) (v : Seed) : (s.setSeed v).tgt1 = s.tgt1 := rfl
@[simp] theorem State.setSeed_fc (s : State) (v : Seed) : (s.setSeed v).fc = s.fc := rfl
@[simp] theorem State.setSeed_seed (s : State) (v : Seed) : (s.setSeed v).seed = v := rfl
@[simp] theorem State.setSeed_hold (s : State) (v : Seed) : (s.setSeed v).hold = s.hold := rfl
@[simp] theorem State.setSeed_pend (s : State) (v : Seed) : (s.setSeed v).pend = s.pend := rfl
@[simp] theorem State.setSeed_gie (s : State) (v : Seed) : (s.setSeed v).gie = s.gie := rfl
@[simp] theorem State.setSeed_inService (s : State) (v : Seed) : (s.setSeed v).inService = s.inService := rfl
@[simp] theorem State.setSeed_out (s : State) (v : Seed) : (s.setSeed v).out = s.out := rfl
@[simp] theorem State.setSeed_pin (s : State) (v : Seed) : (s.setSeed v).pin = s.pin := rfl
@[simp] theorem State.setSeed_trace (s : State) (v : Seed) : (s.setSeed v).trace = s.trace := rfl
@[simp] theorem State.setSeed_ret (s : State) (v : Seed) : (s.setSeed v).ret = s.ret := rfl
@[simp] theorem State.setSeed_seedings (s : State) (v : Seed) : (s.setSeed v).seedings = s.seedings := rfl
@[simp] theorem State.setSeed_agenda (s : State) (v : Seed) : (s.setSeed v).agenda = s.agenda := rfl

/-! `setHold` -/

@[simp] theorem State.setHold_bright (s : State) (v : Bool) : (s.setHold v).bright = s.bright := rfl
@[simp] theorem State.setHold_low (s : State) (v : Bool) : (s.setHold v).low = s.low := rfl
@[simp] theorem State.setHold_high (s : State) (v : Bool) : (s.setHold v).high = s.high := rfl
@[simp] theorem State.setHold_cnt0 (s : State) (v : Bool) : (s.setHold v).cnt0 = s.cnt0 := rfl
@[simp] theorem State.setHold_cnt1 (s : State) (v : Bool) : (s.setHold v).cnt1 = s.cnt1 := rfl
@[simp] theorem State.setHold_tgt0 (s : State) (v : Bool) : (s.setHold v).tgt0 = s.tgt0 := rfl
@[simp] theorem State.setHold_tgt1 (s : State) (v : Bool) : (s.setHold v).tgt1 = s.tgt1 := rfl
@[simp] theorem State.setHold_fc (s : State) (v : Bool) : (s.setHold v).fc = s.fc := rfl
@[simp] theorem State.setHold_seed (s : State) (v : Bool) : (s.setHold v).seed = s.seed := rfl
@[simp] theorem State.setHold_hold (s : State) (v : Bool) : (s.setHold v).hold = v := rfl
@[simp] theorem State.setHold_pend (s : State) (v : Bool) : (s.setHold v).pend = s.pend := rfl
@[simp] theorem State.setHold_gie (s : State) (v : Bool) : (s.setHold v).gie = s.gie := rfl
@[simp] theorem State.setHold_inService (s : State) (v : Bool) : (s.setHold v).inService = s.inService := rfl
@[simp] theorem State.setHold_out (s : State) (v : Bool) : (s.setHold v).out = s.out := rfl
@[simp] theorem State.setHold_pin (s : State) (v : Bool) : (s.setHold v).pin = s.pin := rfl
@[simp] theorem State.setHold_trace (s : State) (v : Bool) : (s.setHold v).trace = s.trace := rfl
@[simp] theorem State.setHold_ret (s : State) (v : Bool) : (s.setHold v).ret = s.ret := rfl
@[simp] theorem State.setHold_seedings (s : State) (v : Bool) : (s.setHold v).seedings = s.seedings := rfl
@[simp] theorem State.setHold_agenda (s : State) (v : Bool) : (s.setHold v).agenda = s.agenda := rfl

/-! `setPend` -/

@[simp] theorem State.setPend_bright (s : State) (v : Pending) : (s.setPend v).bright = s.bright := rfl
@[simp] theorem State.setPend_low (s : State) (v : Pending) : (s.setPend v).low = s.low := rfl
@[simp] theorem State.setPend_high (s : State) (v : Pending) : (s.setPend v).high = s.high := rfl
@[simp] theorem State.setPend_cnt0 (s : State) (v : Pending) : (s.setPend v).cnt0 = s.cnt0 := rfl
@[simp] theorem State.setPend_cnt1 (s : State) (v : Pending) : (s.setPend v).cnt1 = s.cnt1 := rfl
@[simp] theorem State.setPend_tgt0 (s : State) (v : Pending) : (s.setPend v).tgt0 = s.tgt0 := rfl
@[simp] theorem State.setPend_tgt1 (s : State) (v : Pending) : (s.setPend v).tgt1 = s.tgt1 := rfl
@[simp] theorem State.setPend_fc (s : State) (v : Pending) : (s.setPend v).fc = s.fc := rfl
@[simp] theorem State.setPend_seed (s : State) (v : Pending) : (s.setPend v).seed = s.seed := rfl
@[simp] theorem State.setPend_hold (s : State) (v : Pending) : (s.setPend v).hold = s.hold := rfl
@[simp] theorem State.setPend_pend (s : State) (v : Pending) : (s.setPend v).pend = v := rfl
@[simp] theorem State.setPend_gie (s : State) (v : Pending) : (s.setPend v).gie = s.gie := rfl
@[simp] theorem State.setPend_inService (s : State) (v : Pending) : (s.setPend v).inService = s.inService := rfl
@[simp] theorem State.setPend_out (s : State) (v : Pending) : (s.setPend v).out = s.out := rfl
@[simp] theorem State.setPend_pin (s : State) (v : Pending) : (s.setPend v).pin = s.pin := rfl
@[simp] theorem State.setPend_trace (s : State) (v : Pending) : (s.setPend v).trace = s.trace := rfl
@[simp] theorem State.setPend_ret (s : State) (v : Pending) : (s.setPend v).ret = s.ret := rfl
@[simp] theorem State.setPend_seedings (s : State) (v : Pending) : (s.setPend v).seedings = s.seedings := rfl
@[simp] theorem State.setPend_agenda (s : State) (v : Pending) : (s.setPend v).agenda = s.agenda := rfl

/-! `setGie` -/

@[simp] theorem State.setGie_bright (s : State) (v : Bool) : (s.setGie v).bright = s.bright := rfl
@[simp] theorem State.setGie_low (s : State) (v : Bool) : (s.setGie v).low = s.low := rfl
@[simp] theorem State.setGie_high (s : State) (v : Bool) : (s.setGie v).high = s.high := rfl
@[simp] theorem State.setGie_cnt0 (s : State) (v : Bool) : (s.setGie v).cnt0 = s.cnt0 := rfl
@[simp] theorem State.setGie_cnt1 (s : State) (v : Bool) : (s.setGie v).cnt1 = s.cnt1 := rfl
@[simp] theorem State.setGie_tgt0 (s : State) (v : Bool) : (s.setGie v).tgt0 = s.tgt0 := rfl
@[simp] theorem State.setGie_tgt1 (s : State) (v : Bool) : (s.setGie v).tgt1 = s.tgt1 := rfl
@[simp] theorem State.setGie_fc (s : State) (v : Bool) : (s.setGie v).fc = s.fc := rfl
@[simp] theorem State.setGie_seed (s : State) (v : Bool) : (s.setGie v).seed = s.seed := rfl
@[simp] theorem State.setGie_hold (s : State) (v : Bool) : (s.setGie v).hold = s.hold := rfl
@[simp] theorem State.setGie_pend (s : State) (v : Bool) : (s.setGie v).pend = s.pend := rfl
@[simp] theorem State.setGie_gie (s : State) (v : Bool) : (s.setGie v).gie = v := rfl
@[simp] theorem State.setGie_inService (s : State) (v : Bool) : (s.setGie v).inService = s.inService := rfl
@[simp] theorem State.setGie_out (s : State) (v : Bool) : (s.setGie v).out = s.out := rfl
@[simp] theorem State.setGie_pin (s : State) (v : Bool) : (s.setGie v).pin = s.pin := rfl
@[simp] theorem State.setGie_trace (s : State) (v : Bool) : (s.setGie v).trace = s.trace := rfl
@[simp] theorem State.setGie_ret (s : State) (v : Bool) : (s.setGie v).ret = s.ret := rfl
@[simp] theorem State.setGie_seedings (s : State) (v : Bool) : (s.setGie v).seedings = s.seedings := rfl
@[simp] theorem State.setGie_agenda (s : State) (v : Bool) : (s.setGie v).agenda = s.agenda := rfl

/-! `setInService` -/

@[simp] theorem State.setInService_bright (s : State) (v : Bool) : (s.setInService v).bright = s.bright := rfl
@[simp] theorem State.setInService_low (s : State) (v : Bool) : (s.setInService v).low = s.low := rfl
@[simp] theorem State.setInService_high (s : State) (v : Bool) : (s.setInService v).high = s.high := rfl
@[simp] theorem State.setInService_cnt0 (s : State) (v : Bool) : (s.setInService v).cnt0 = s.cnt0 := rfl
@[simp] theorem State.setInService_cnt1 (s : State) (v : Bool) : (s.setInService v).cnt1 = s.cnt1 := rfl
@[simp] theorem State.setInService_tgt0 (s : State) (v : Bool) : (s.setInService v).tgt0 = s.tgt0 := rfl
@[simp] theorem State.setInService_tgt1 (s : State) (v : Bool) : (s.setInService v).tgt1 = s.tgt1 := rfl
@[simp] theorem State.setInService_fc (s : State) (v : Bool) : (s.setInService v).fc = s.fc := rfl
@[simp] theorem State.setInService_seed (s : State) (v : Bool) : (s.setInService v).seed = s.seed := rfl
@[simp] theorem State.setInService_hold (s : State) (v : Bool) : (s.setInService v).hold = s.hold := rfl
@[simp] theorem State.setInService_pend (s : State) (v : Bool) : (s.setInService v).pend = s.pend := rfl
@[simp] theorem State.setInService_gie (s : State) (v : Bool) : (s.setInService v).gie = s.gie := rfl
@[simp] theorem State.setInService_inService (s : State) (v : Bool) : (s.setInService v).inService = v := rfl
@[simp] theorem State.setInService_out (s : State) (v : Bool) : (s.setInService v).out = s.out := rfl
@[simp] theorem State.setInService_pin (s : State) (v : Bool) : (s.setInService v).pin = s.pin := rfl
@[simp] theorem State.setInService_trace (s : State) (v : Bool) : (s.setInService v).trace = s.trace := rfl
@[simp] theorem State.setInService_ret (s : State) (v : Bool) : (s.setInService v).ret = s.ret := rfl
@[simp] theorem State.setInService_seedings (s : State) (v : Bool) : (s.setInService v).seedings = s.seedings := rfl
@[simp] theorem State.setInService_agenda (s : State) (v : Bool) : (s.setInService v).agenda = s.agenda := rfl

/-! `setOut` -/

@[simp] theorem State.setOut_bright (s : State) (v : Port) : (s.setOut v).bright = s.bright := rfl
@[simp] theorem State.setOut_low (s : State) (v : Port) : (s.setOut v).low = s.low := rfl
@[simp] theorem State.setOut_high (s : State) (v : Port) : (s.setOut v).high = s.high := rfl
@[simp] theorem State.setOut_cnt0 (s : State) (v : Port) : (s.setOut v).cnt0 = s.cnt0 := rfl
@[simp] theorem State.setOut_cnt1 (s : State) (v : Port) : (s.setOut v).cnt1 = s.cnt1 := rfl
@[simp] theorem State.setOut_tgt0 (s : State) (v : Port) : (s.setOut v).tgt0 = s.tgt0 := rfl
@[simp] theorem State.setOut_tgt1 (s : State) (v : Port) : (s.setOut v).tgt1 = s.tgt1 := rfl
@[simp] theorem State.setOut_fc (s : State) (v : Port) : (s.setOut v).fc = s.fc := rfl
@[simp] theorem State.setOut_seed (s : State) (v : Port) : (s.setOut v).seed = s.seed := rfl
@[simp] theorem State.setOut_hold (s : State) (v : Port) : (s.setOut v).hold = s.hold := rfl
@[simp] theorem State.setOut_pend (s : State) (v : Port) : (s.setOut v).pend = s.pend := rfl
@[simp] theorem State.setOut_gie (s : State) (v : Port) : (s.setOut v).gie = s.gie := rfl
@[simp] theorem State.setOut_inService (s : State) (v : Port) : (s.setOut v).inService = s.inService := rfl
@[simp] theorem State.setOut_out (s : State) (v : Port) : (s.setOut v).out = v := rfl
@[simp] theorem State.setOut_pin (s : State) (v : Port) : (s.setOut v).pin = s.pin := rfl
@[simp] theorem State.setOut_trace (s : State) (v : Port) : (s.setOut v).trace = s.trace := rfl
@[simp] theorem State.setOut_ret (s : State) (v : Port) : (s.setOut v).ret = s.ret := rfl
@[simp] theorem State.setOut_seedings (s : State) (v : Port) : (s.setOut v).seedings = s.seedings := rfl
@[simp] theorem State.setOut_agenda (s : State) (v : Port) : (s.setOut v).agenda = s.agenda := rfl

/-! `setPin` -/

@[simp] theorem State.setPin_bright (s : State) (v : Bool) : (s.setPin v).bright = s.bright := rfl
@[simp] theorem State.setPin_low (s : State) (v : Bool) : (s.setPin v).low = s.low := rfl
@[simp] theorem State.setPin_high (s : State) (v : Bool) : (s.setPin v).high = s.high := rfl
@[simp] theorem State.setPin_cnt0 (s : State) (v : Bool) : (s.setPin v).cnt0 = s.cnt0 := rfl
@[simp] theorem State.setPin_cnt1 (s : State) (v : Bool) : (s.setPin v).cnt1 = s.cnt1 := rfl
@[simp] theorem State.setPin_tgt0 (s : State) (v : Bool) : (s.setPin v).tgt0 = s.tgt0 := rfl
@[simp] theorem State.setPin_tgt1 (s : State) (v : Bool) : (s.setPin v).tgt1 = s.tgt1 := rfl
@[simp] theorem State.setPin_fc (s : State) (v : Bool) : (s.setPin v).fc = s.fc := rfl
@[simp] theorem State.setPin_seed (s : State) (v : Bool) : (s.setPin v).seed = s.seed := rfl
@[simp] theorem State.setPin_hold (s : State) (v : Bool) : (s.setPin v).hold = s.hold := rfl
@[simp] theorem State.setPin_pend (s : State) (v : Bool) : (s.setPin v).pend = s.pend := rfl
@[simp] theorem State.setPin_gie (s : State) (v : Bool) : (s.setPin v).gie = s.gie := rfl
@[simp] theorem State.setPin_inService (s : State) (v : Bool) : (s.setPin v).inService = s.inService := rfl
@[simp] theorem State.setPin_out (s : State) (v : Bool) : (s.setPin v).out = s.out := rfl
@[simp] theorem State.setPin_pin (s : State) (v : Bool) : (s.setPin v).pin = v := rfl
@[simp] theorem State.setPin_trace (s : State) (v : Bool) : (s.setPin v).trace = s.trace := rfl
@[simp] theorem State.setPin_ret (s : State) (v : Bool) : (s.setPin v).ret = s.ret := rfl
@[simp] theorem State.setPin_seedings (s : State) (v : Bool) : (s.setPin v).seedings = s.seedings := rfl
@[simp] theorem State.setPin_agenda (s : State) (v : Bool) : (s.setPin v).agenda = s.agenda := rfl

/-! `emit` -/

@[simp] theorem State.emit_bright (s : State) (e : OutEvent) : (s.emit e).bright = s.bright := rfl
@[simp] theorem State.emit_low (s : State) (e : OutEvent) : (s.emit e).low = s.low := rfl
@[simp] theorem State.emit_high (s : State) (e : OutEvent) : (s.emit e).high = s.high := rfl
@[simp] theorem State.emit_cnt0 (s : State) (e : OutEvent) : (s.emit e).cnt0 = s.cnt0 := rfl
@[simp] theorem State.emit_cnt1 (s : State) (e : OutEvent) : (s.emit e).cnt1 = s.cnt1 := rfl
@[simp] theorem State.emit_tgt0 (s : State) (e : OutEvent) : (s.emit e).tgt0 = s.tgt0 := rfl
@[simp] theorem State.emit_tgt1 (s : State) (e : OutEvent) : (s.emit e).tgt1 = s.tgt1 := rfl
@[simp] theorem State.emit_fc (s : State) (e : OutEvent) : (s.emit e).fc = s.fc := rfl
@[simp] theorem State.emit_seed (s : State) (e : OutEvent) : (s.emit e).seed = s.seed := rfl
@[simp] theorem State.emit_hold (s : State) (e : OutEvent) : (s.emit e).hold = s.hold := rfl
@[simp] theorem State.emit_pend (s : State) (e : OutEvent) : (s.emit e).pend = s.pend := rfl
@[simp] theorem State.emit_gie (s : State) (e : OutEvent) : (s.emit e).gie = s.gie := rfl
@[simp] theorem State.emit_inService (s : State) (e : OutEvent) : (s.emit e).inService = s.inService := rfl
@[simp] theorem State.emit_out (s : State) (e : OutEvent) : (s.emit e).out = s.out := rfl
@[simp] theorem State.emit_pin (s : State) (e : OutEvent) : (s.emit e).pin = s.pin := rfl
@[simp] theorem State.emit_trace (s : State) (e : OutEvent) : (s.emit e).trace = s.trace ++ [e] := rfl
@[simp] theorem State.emit_ret (s : State) (e : OutEvent) : (s.emit e).ret = s.ret := rfl
@[simp] theorem State.emit_seedings (s : State) (e : OutEvent) : (s.emit e).seedings = s.seedings := rfl
@[simp] theorem State.emit_agenda (s : State) (e : OutEvent) : (s.emit e).agenda = s.agenda := rfl

/-! `setRet` -/

@[simp] theorem State.setRet_bright (s : State) (v : Byte) : (s.setRet v).bright = s.bright := rfl
@[simp] theorem State.setRet_low (s : State) (v : Byte) : (s.setRet v).low = s.low := rfl
@[simp] theorem State.setRet_high (s : State) (v : Byte) : (s.setRet v).high = s.high := rfl
@[simp] theorem State.setRet_cnt0 (s : State) (v : Byte) : (s.setRet v).cnt0 = s.cnt0 := rfl
@[simp] theorem State.setRet_cnt1 (s : State) (v : Byte) : (s.setRet v).cnt1 = s.cnt1 := rfl
@[simp] theorem State.setRet_tgt0 (s : State) (v : Byte) : (s.setRet v).tgt0 = s.tgt0 := rfl
@[simp] theorem State.setRet_tgt1 (s : State) (v : Byte) : (s.setRet v).tgt1 = s.tgt1 := rfl
@[simp] theorem State.setRet_fc (s : State) (v : Byte) : (s.setRet v).fc = s.fc := rfl
@[simp] theorem State.setRet_seed (s : State) (v : Byte) : (s.setRet v).seed = s.seed := rfl
@[simp] theorem State.setRet_hold (s : State) (v : Byte) : (s.setRet v).hold = s.hold := rfl
@[simp] theorem State.setRet_pend (s : State) (v : Byte) : (s.setRet v).pend = s.pend := rfl
@[simp] theorem State.setRet_gie (s : State) (v : Byte) : (s.setRet v).gie = s.gie := rfl
@[simp] theorem State.setRet_inService (s : State) (v : Byte) : (s.setRet v).inService = s.inService := rfl
@[simp] theorem State.setRet_out (s : State) (v : Byte) : (s.setRet v).out = s.out := rfl
@[simp] theorem State.setRet_pin (s : State) (v : Byte) : (s.setRet v).pin = s.pin := rfl
@[simp] theorem State.setRet_trace (s : State) (v : Byte) : (s.setRet v).trace = s.trace := rfl
@[simp] theorem State.setRet_ret (s : State) (v : Byte) : (s.setRet v).ret = v := rfl
@[simp] theorem State.setRet_seedings (s : State) (v : Byte) : (s.setRet v).seedings = s.seedings := rfl
@[simp] theorem State.setRet_agenda (s : State) (v : Byte) : (s.setRet v).agenda = s.agenda := rfl

/-! `countSeeding` -/

@[simp] theorem State.countSeeding_bright (s : State) : s.countSeeding.bright = s.bright := rfl
@[simp] theorem State.countSeeding_low (s : State) : s.countSeeding.low = s.low := rfl
@[simp] theorem State.countSeeding_high (s : State) : s.countSeeding.high = s.high := rfl
@[simp] theorem State.countSeeding_cnt0 (s : State) : s.countSeeding.cnt0 = s.cnt0 := rfl
@[simp] theorem State.countSeeding_cnt1 (s : State) : s.countSeeding.cnt1 = s.cnt1 := rfl
@[simp] theorem State.countSeeding_tgt0 (s : State) : s.countSeeding.tgt0 = s.tgt0 := rfl
@[simp] theorem State.countSeeding_tgt1 (s : State) : s.countSeeding.tgt1 = s.tgt1 := rfl
@[simp] theorem State.countSeeding_fc (s : State) : s.countSeeding.fc = s.fc := rfl
@[simp] theorem State.countSeeding_seed (s : State) : s.countSeeding.seed = s.seed := rfl
@[simp] theorem State.countSeeding_hold (s : State) : s.countSeeding.hold = s.hold := rfl
@[simp] theorem State.countSeeding_pend (s : State) : s.countSeeding.pend = s.pend := rfl
@[simp] theorem State.countSeeding_gie (s : State) : s.countSeeding.gie = s.gie := rfl
@[simp] theorem State.countSeeding_inService (s : State) : s.countSeeding.inService = s.inService := rfl
@[simp] theorem State.countSeeding_out (s : State) : s.countSeeding.out = s.out := rfl
@[simp] theorem State.countSeeding_pin (s : State) : s.countSeeding.pin = s.pin := rfl
@[simp] theorem State.countSeeding_trace (s : State) : s.countSeeding.trace = s.trace := rfl
@[simp] theorem State.countSeeding_ret (s : State) : s.countSeeding.ret = s.ret := rfl
@[simp] theorem State.countSeeding_seedings (s : State) : s.countSeeding.seedings = s.seedings + 1 := rfl
@[simp] theorem State.countSeeding_agenda (s : State) : s.countSeeding.agenda = s.agenda := rfl

/-! `setAgenda` -/

@[simp] theorem State.setAgenda_bright (s : State) (l : List Turn) : (s.setAgenda l).bright = s.bright := rfl
@[simp] theorem State.setAgenda_low (s : State) (l : List Turn) : (s.setAgenda l).low = s.low := rfl
@[simp] theorem State.setAgenda_high (s : State) (l : List Turn) : (s.setAgenda l).high = s.high := rfl
@[simp] theorem State.setAgenda_cnt0 (s : State) (l : List Turn) : (s.setAgenda l).cnt0 = s.cnt0 := rfl
@[simp] theorem State.setAgenda_cnt1 (s : State) (l : List Turn) : (s.setAgenda l).cnt1 = s.cnt1 := rfl
@[simp] theorem State.setAgenda_tgt0 (s : State) (l : List Turn) : (s.setAgenda l).tgt0 = s.tgt0 := rfl
@[simp] theorem State.setAgenda_tgt1 (s : State) (l : List Turn) : (s.setAgenda l).tgt1 = s.tgt1 := rfl
@[simp] theorem State.setAgenda_fc (s : State) (l : List Turn) : (s.setAgenda l).fc = s.fc := rfl
@[simp] theorem State.setAgenda_seed (s : State) (l : List Turn) : (s.setAgenda l).seed = s.seed := rfl
@[simp] theorem State.setAgenda_hold (s : State) (l : List Turn) : (s.setAgenda l).hold = s.hold := rfl
@[simp] theorem State.setAgenda_pend (s : State) (l : List Turn) : (s.setAgenda l).pend = s.pend := rfl
@[simp] theorem State.setAgenda_gie (s : State) (l : List Turn) : (s.setAgenda l).gie = s.gie := rfl
@[simp] theorem State.setAgenda_inService (s : State) (l : List Turn) : (s.setAgenda l).inService = s.inService := rfl
@[simp] theorem State.setAgenda_out (s : State) (l : List Turn) : (s.setAgenda l).out = s.out := rfl
@[simp] theorem State.setAgenda_pin (s : State) (l : List Turn) : (s.setAgenda l).pin = s.pin := rfl
@[simp] theorem State.setAgenda_trace (s : State) (l : List Turn) : (s.setAgenda l).trace = s.trace := rfl
@[simp] theorem State.setAgenda_ret (s : State) (l : List Turn) : (s.setAgenda l).ret = s.ret := rfl
@[simp] theorem State.setAgenda_seedings (s : State) (l : List Turn) : (s.setAgenda l).seedings = s.seedings := rfl
@[simp] theorem State.setAgenda_agenda (s : State) (l : List Turn) : (s.setAgenda l).agenda = l := rfl

/-! `setCnt` -/

@[simp] theorem State.setCnt_bright (s : State) (ch : Channel) (v : Byte) : (s.setCnt ch v).bright = s.bright := rfl
@[simp] theorem State.setCnt_low (s : State) (ch : Channel) (v : Byte) : (s.setCnt ch v).low = s.low := rfl
@[simp] theorem State.setCnt_high (s : State) (ch : Channel) (v : Byte) : (s.setCnt ch v).high = s.high := rfl
@[simp] theorem State.setCnt_tgt0 (s : State) (ch : Channel) (v : Byte) : (s.setCnt ch v).tgt0 = s.tgt0 := rfl
@[simp] theorem State.setCnt_tgt1 (s : State) (ch : Channel) (v : Byte) : (s.setCnt ch v).tgt1 = s.tgt1 := rfl
@[simp] theorem State.setCnt_fc (s : State) (ch : Channel) (v : Byte) : (s.setCnt ch v).fc = s.fc := rfl
@[simp] theorem State.setCnt_seed (s : State) (ch : Channel) (v : Byte) : (s.setCnt ch v).seed = s.seed := rfl
@[simp] theorem State.setCnt_hold (s : State) (ch : Channel) (v : Byte) : (s.setCnt ch v).hold = s.hold := rfl
@[simp] theorem State.setCnt_pend (s : State) (ch : Channel) (v : Byte) : (s.setCnt ch v).pend = s.pend := rfl
@[simp] theorem State.setCnt_gie (s : State) (ch : Channel) (v : Byte) : (s.setCnt ch v).gie = s.gie := rfl
@[simp] theorem State.setCnt_inService (s : State) (ch : Channel) (v : Byte) : (s.setCnt ch v).inService = s.inService := rfl
@[simp] theorem State.setCnt_out (s : State) (ch : Channel) (v : Byte) : (s.setCnt ch v).out = s.out := rfl
@[simp] theorem State.setCnt_pin (s : State) (ch : Channel) (v : Byte) : (s.setCnt ch v).pin = s.pin := rfl
@[simp] theorem State.setCnt_trace (s : State) (ch : Channel) (v : Byte) : (s.setCnt ch v).trace = s.trace := rfl
@[simp] theorem State.setCnt_ret (s : State) (ch : Channel) (v : Byte) : (s.setCnt ch v).ret = s.ret := rfl
@[simp] theorem State.setCnt_seedings (s : State) (ch : Channel) (v : Byte) : (s.setCnt ch v).seedings = s.seedings := rfl
@[simp] theorem State.setCnt_agenda (s : State) (ch : Channel) (v : Byte) : (s.setCnt ch v).agenda = s.agenda := rfl
@[simp] theorem State.setCnt_ch0_cnt0 (s : State) (v : Byte) : (s.setCnt .ch0 v).cnt0 = v := rfl
@[simp] theorem State.setCnt_ch0_cnt1 (s : State) (v : Byte) : (s.setCnt .ch0 v).cnt1 = s.cnt1 := rfl
@[simp] theorem State.setCnt_ch1_cnt1 (s : State) (v : Byte) : (s.setCnt .ch1 v).cnt1 = v := rfl
@[simp] theorem State.setCnt_ch1_cnt0 (s : State) (v : Byte) : (s.setCnt .ch1 v).cnt0 = s.cnt0 := rfl
@[simp] theorem State.setCnt_cnt_same (s : State) (ch : Channel) (v : Byte) : (s.setCnt ch v).cnt ch = v := by
  cases ch <;> rfl
theorem State.setCnt_cnt (s : State) (ch ch' : Channel) (v : Byte) :
    (s.setCnt ch v).cnt ch' = if ch' = ch then v else s.cnt ch' := by
  cases ch <;> cases ch' <;> rfl
@[simp] theorem State.setCnt_tgt (s : State) (ch ch' : Channel) (v : Byte) : (s.setCnt ch v).tgt ch' = s.tgt ch' := by
  cases ch' <;> rfl

/-! `setTgt` -/

@[simp] theorem State.setTgt_bright (s : State) (ch : Channel) (v : Byte) : (s.setTgt ch v).bright = s.bright := rfl
@[simp] theorem State.setTgt_low (s : State) (ch : Channel) (v : Byte) : (s.setTgt ch v).low = s.low := rfl
@[simp] theorem State.setTgt_high (s : State) (ch : Channel) (v : Byte) : (s.setTgt ch v).high = s.high := rfl
@[simp] theorem State.setTgt_cnt0 (s : State) (ch : Channel) (v : Byte) : (s.setTgt ch v).cnt0 = s.cnt0 := rfl
@[simp] theorem State.setTgt_cnt1 (s : State) (ch : Channel) (v : Byte) : (s.setTgt ch v).cnt1 = s.cnt1 := rfl
@[simp] theorem State.setTgt_fc (s : State) (ch : Channel) (v : Byte) : (s.setTgt ch v).fc = s.fc := rfl
@[simp] theorem State.setTgt_seed (s : State) (ch : Channel) (v : Byte) : (s.setTgt ch v).seed = s.seed := rfl
@[simp] theorem State.setTgt_hold (s : State) (ch : Channel) (v : Byte) : (s.setTgt ch v).hold = s.hold := rfl
@[simp] theorem State.setTgt_pend (s : State) (ch : Channel) (v : Byte) : (s.setTgt ch v).pend = s.pend := rfl
@[simp] theorem State.setTgt_gie (s : State) (ch : Channel) (v : Byte) : (s.setTgt ch v).gie = s.gie := rfl
@[simp] theorem State.setTgt_inService (s : State) (ch : Channel) (v : Byte) : (s.setTgt ch v).inService = s.inService := rfl
@[simp] theorem State.setTgt_out (s : State) (ch : Channel) (v : Byte) : (s.setTgt ch v).out = s.out := rfl
@[simp] theorem State.setTgt_pin (s : State) (ch : Channel) (v : Byte) : (s.setTgt ch v).pin = s.pin := rfl
@[simp] theorem State.setTgt_trace (s : State) (ch : Channel) (v : Byte) : (s.setTgt ch v).trace = s.trace := rfl
@[simp] theorem State.setTgt_ret (s : State) (ch : Channel) (v : Byte) : (s.setTgt ch v).ret = s.ret := rfl
@[simp] theorem State.setTgt_seedings (s : State) (ch : Channel) (v : Byte) : (s.setTgt ch v).seedings = s.seedings := rfl
@[simp] theorem State.setTgt_agenda (s : State) (ch : Channel) (v : Byte) : (s.setTgt ch v).agenda = s.agenda := rfl
@[simp] theorem State.setTgt_ch0_tgt0 (s : State) (v : Byte) : (s.setTgt .ch0 v).tgt0 = v := rfl
@[simp] theorem State.setTgt_ch0_tgt1 (s : State) (v : Byte) : (s.setTgt .ch0 v).tgt1 = s.tgt1 := rfl
@[simp] theorem State.setTgt_ch1_tgt1 (s : State) (v : Byte) : (s.setTgt .ch1 v).tgt1 = v := rfl
@[simp] theorem State.setTgt_ch1_tgt0 (s : State) (v : Byte) : (s.setTgt .ch1 v).tgt0 = s.tgt0 := rfl
@[simp] theorem State.setTgt_tgt_same (s : State) (ch : Channel) (v : Byte) : (s.setTgt ch v).tgt ch = v := by
  cases ch <;> rfl
theorem State.setTgt_tgt (s : State) (ch ch' : Channel) (v : Byte) :
    (s.setTgt ch v).tgt ch' = if ch' = ch then v else s.tgt ch' := by
  cases ch <;> cases ch' <;> rfl
@[simp] theorem State.setTgt_cnt (s : State) (ch ch' : Channel) (v : Byte) : (s.setTgt ch v).cnt ch' = s.cnt ch' := by
  cases ch' <;> rfl

/-! Channel views of the two register pairs. -/

@[simp] theorem State.cnt_ch0 (s : State) : s.cnt .ch0 = s.cnt0 := rfl
@[simp] theorem State.cnt_ch1 (s : State) : s.cnt .ch1 = s.cnt1 := rfl
@[simp] theorem State.tgt_ch0 (s : State) : s.tgt .ch0 = s.tgt0 := rfl
@[simp] theorem State.tgt_ch1 (s : State) : s.tgt .ch1 = s.tgt1 := rfl

end Sys2Proof.Machine
end

