-- ==== Sys2Proof/Laws/Values.lean ====
section
/-! SUPPORT. The values the operations compute, as numbers: seed recurrence, counters, edges, draws,
port and event-word fields. -/

namespace Sys2Proof.Machine

/-! ## RandomGenerator -/

theorem lcgNext_toNat (x : Seed) : (lcgNext x).toNat = (x.toNat * 1103515245 + 12345) % 2 ^ 32 := by
  simp only [lcgNext, BitVec.toNat_ofNat, Config.lcgA_eq, Config.lcgC_eq, Nat.add_comm, Nat.mul_comm]

theorem lcgNext_eq (x : Seed) : lcgNext x = x * 1103515245 + 12345 := by
  have ha : (1103515245 : Seed).toNat = 1103515245 := rfl
  have hc : (12345 : Seed).toNat = 12345 := rfl
  apply BitVec.eq_of_toNat_eq
  rw [lcgNext_toNat, BitVec.toNat_add, BitVec.toNat_mul, ha, hc, Nat.mod_add_mod]

theorem seedByte_toNat (x : Seed) : (seedByte x).toNat = x.toNat / 2 ^ 16 % 256 := by
  simp [seedByte, Nat.shiftRight_eq_div_pow]

/-! ## PwmChannel -/

@[simp] theorem cntNext_toNat (c : Byte) : (cntNext c).toNat = (c.toNat + 1) % 256 := by
  simp [cntNext]

theorem cntNext_eq (c : Byte) : cntNext c = c + 1 := by
  apply BitVec.eq_of_toNat_eq
  simp [BitVec.toNat_add]

@[simp] theorem levelValue_eq (o : Bool) : levelValue o = if o then 1 else 0 := rfl

/-! ## BrightnessController -/

@[simp] theorem lowEdge_toNat (b : Byte) : (lowEdge b).toNat = 25 * b.toNat / 128 := by
  have := b.isLt
  simp only [lowEdge, BitVec.toNat_ofNat, Config.lowNum_eq, Config.edgeDen_eq]
  omega

@[simp] theorem highEdge_toNat (b : Byte) : (highEdge b).toNat = 113 * b.toNat / 128 + 30 := by
  have := b.isLt
  simp only [highEdge, BitVec.toNat_ofNat, Config.highNum_eq, Config.edgeDen_eq, Config.highOfs_eq]
  omega

/-! ## FlickerScheduler -/

theorem drawDivisor_of_lt {l h : Byte} (hlt : l.toNat < h.toNat) :
    drawDivisor l h = h.toNat - l.toNat := by
  simp only [drawDivisor]
  split <;> omega

theorem drawDivisor_of_le {l h : Byte} (hle : h.toNat ≤ l.toNat) : drawDivisor l h = 1 := by
  simp only [drawDivisor]
  split <;> omega

theorem drawValue_of_lt {l h : Byte} (r : Byte) (hlt : l.toNat < h.toNat) :
    (drawValue l h r).toNat = l.toNat + r.toNat % (h.toNat - l.toNat) := by
  have hh := h.isLt
  have hr : r.toNat % (h.toNat - l.toNat) < h.toNat - l.toNat := Nat.mod_lt _ (by omega)
  simp only [drawValue, drawDivisor_of_lt hlt, BitVec.toNat_ofNat]
  omega

theorem drawValue_of_le {l h : Byte} (r : Byte) (hle : h.toNat ≤ l.toNat) : drawValue l h r = l := by
  apply BitVec.eq_of_toNat_eq
  have := l.isLt
  simp only [drawValue, drawDivisor_of_le hle, BitVec.toNat_ofNat, Nat.mod_one]
  omega

/-! ## InterruptDispatcher -/

theorem fcNext_toNat (n : FrameCount) : (fcNext n).toNat = min (n.toNat + 1) 4095 := by
  simp only [fcNext, BitVec.toNat_ofNat, Config.fcMax_eq]
  omega

/-! ## Port and event word -/

theorem portOf_bit0 (o1 o0 : Bool) : (portOf o1 o0).getLsbD 0 = o0 := by
  cases o1 <;> cases o0 <;> rfl

theorem portOf_bit1 (o1 o0 : Bool) : (portOf o1 o0).getLsbD 1 = o1 := by
  cases o1 <;> cases o0 <;> rfl

@[simp] theorem portOf_getElem0 (o1 o0 : Bool) : (portOf o1 o0)[0] = o0 := portOf_bit0 o1 o0

@[simp] theorem portOf_getElem1 (o1 o0 : Bool) : (portOf o1 o0)[1] = o1 := portOf_bit1 o1 o0

@[simp] theorem wordP_wordOf (l e i p : Bool) : wordP (wordOf l e i p) = p := by
  cases l <;> cases e <;> cases i <;> cases p <;> rfl

@[simp] theorem wordI_wordOf (l e i p : Bool) : wordI (wordOf l e i p) = i := by
  cases l <;> cases e <;> cases i <;> cases p <;> rfl

@[simp] theorem wordE_wordOf (l e i p : Bool) : wordE (wordOf l e i p) = e := by
  cases l <;> cases e <;> cases i <;> cases p <;> rfl

@[simp] theorem wordL_wordOf (l e i p : Bool) : wordL (wordOf l e i p) = l := by
  cases l <;> cases e <;> cases i <;> cases p <;> rfl

/-- A pending register read as bits and back (R30). -/
@[simp] theorem pendingOf_pendingBits (p : Pending) : pendingOf (pendingBits p) = p := by
  rcases p with ⟨_ | _, _ | _, _ | _⟩ <;> rfl

@[simp] theorem pendingBits_pendingOf (v : BitVec 3) : pendingBits (pendingOf v) = v := by
  revert v; decide

/-! ## Pending flags -/

@[simp] theorem Pending.raiseT0_eq (p : Pending) : p.raiseT0 = ⟨true, p.t1, p.edge⟩ := rfl
@[simp] theorem Pending.raiseT1_eq (p : Pending) : p.raiseT1 = ⟨p.t0, true, p.edge⟩ := rfl
@[simp] theorem Pending.raiseEdge_eq (p : Pending) : p.raiseEdge = ⟨p.t0, p.t1, true⟩ := rfl
@[simp] theorem Pending.clearT0_eq (p : Pending) : p.clearT0 = ⟨false, p.t1, p.edge⟩ := rfl
@[simp] theorem Pending.clearT1_eq (p : Pending) : p.clearT1 = ⟨p.t0, false, p.edge⟩ := rfl
@[simp] theorem Pending.clearEdge_eq (p : Pending) : p.clearEdge = ⟨p.t0, p.t1, false⟩ := rfl

end Sys2Proof.Machine
end

