-- ==== Sys2Proof/Laws/Ops.lean ====
section
/-! SUPPORT. For each shared operation, once, everything it can do: the state it leaves, or the cases
of it, with every field it does not name unchanged. -/

namespace Sys2Proof.Machine

/-! ## Primitives -/

theorem portWrite_eq (o1 o0 : Bool) (s : State) :
    portWrite o1 o0 s = { s with out := portOf o1 o0, trace := s.trace ++ [.out o1 o0] } := rfl

theorem t1Restart_eq (s : State) : t1Restart s = { s with trace := s.trace ++ [.t1restart] } := rfl

theorem enter_eq (s : State) : enter s = { s with inService := true } := rfl

theorem leave_eq (s : State) : leave s = { s with inService := false } := rfl

theorem present_eq (w : EventWord) (s : State) :
    present w s =
      { s with
        pend := ⟨s.pend.t0 || wordP w, s.pend.t1 || wordI w, s.pend.edge || wordE w⟩
        pin := if wordE w then wordL w else s.pin } := rfl

/-! ## Leaf operations -/

theorem reseed_eq (s : State) :
    reseed s = { s with seed := Config.seed0 s.seedings, seedings := s.seedings + 1 } := rfl

theorem advanceSeed_eq (s : State) : advanceSeed s = { s with seed := lcgNext s.seed } := rfl

theorem nextByte_eq (s : State) : nextByte s = seedByte (lcgNext s.seed) := rfl

theorem draw_eq (ch : Channel) (s : State) :
    draw ch s = drawValue s.low s.high (seedByte (lcgNext s.seed)) := rfl

theorem tick_ch0 (s : State) :
    tick .ch0 s =
      (decide ((s.cnt0.toNat + 1) % 256 < s.tgt0.toNat), { s with cnt0 := cntNext s.cnt0 }) := by
  simp only [tick, State.setCnt, State.cnt, State.tgt, cntNext_toNat]

theorem tick_ch1 (s : State) :
    tick .ch1 s =
      (decide ((s.cnt1.toNat + 1) % 256 < s.tgt1.toNat), { s with cnt1 := cntNext s.cnt1 }) := by
  simp only [tick, State.setCnt, State.cnt, State.tgt, cntNext_toNat]

theorem edges_eq (s : State) :
    edges s = { s with low := lowEdge s.bright, high := highEdge s.bright } := rfl

/-- INCREMENT is one up with new edges, or nothing at the ceiling. -/
theorem increment_cases (s : State) :
    (s.bright.toNat < 255 ∧ ∃ b : Byte, b.toNat = s.bright.toNat + 1 ∧
      increment s = { s with bright := b, low := lowEdge b, high := highEdge b }) ∨
    (s.bright.toNat = 255 ∧ increment s = s) := by
  have hb := s.bright.isLt
  by_cases h : s.bright.toNat < 255
  · refine .inl ⟨h, BitVec.ofNat 8 (s.bright.toNat + 1), ?_, ?_⟩
    · simp only [BitVec.toNat_ofNat]; omega
    · simp only [increment, Config.brightMax_eq, h, if_true]; rfl
  · exact .inr ⟨by omega, by simp only [increment, Config.brightMax_eq, h, if_false]⟩

/-- DECREMENT is one down with new edges, or nothing at the floor. -/
theorem decrement_cases (s : State) :
    (0 < s.bright.toNat ∧ ∃ b : Byte, b.toNat = s.bright.toNat - 1 ∧
      decrement s = { s with bright := b, low := lowEdge b, high := highEdge b }) ∨
    (s.bright.toNat = 0 ∧ decrement s = s) := by
  have hb := s.bright.isLt
  by_cases h : 0 < s.bright.toNat
  · refine .inl ⟨h, BitVec.ofNat 8 (s.bright.toNat - 1), ?_, ?_⟩
    · simp only [BitVec.toNat_ofNat]; omega
    · simp only [decrement, Config.brightMin_eq, h, if_true]; rfl
  · exact .inr ⟨by omega, by simp only [decrement, Config.brightMin_eq, h, if_false]⟩

/-- The frame of INCREMENT: only the brightness and its edges can change. -/
theorem increment_frame (s : State) :
    increment s = { s with bright := (increment s).bright, low := (increment s).low,
                           high := (increment s).high } := by
  obtain ⟨-, b, -, h⟩ | ⟨-, h⟩ := increment_cases s <;> rw [h]

/-- The frame of DECREMENT. -/
theorem decrement_frame (s : State) :
    decrement s = { s with bright := (decrement s).bright, low := (decrement s).low,
                           high := (decrement s).high } := by
  obtain ⟨-, b, -, h⟩ | ⟨-, h⟩ := decrement_cases s <;> rw [h]

/-! ## Compound operations -/

theorem redraw_ch0 (s : State) :
    redraw .ch0 s =
      { s with seed := lcgNext s.seed, tgt0 := drawValue s.low s.high (seedByte (lcgNext s.seed)) } := rfl

theorem redraw_ch1 (s : State) :
    redraw .ch1 s =
      { s with seed := lcgNext s.seed, tgt1 := drawValue s.low s.high (seedByte (lcgNext s.seed)) } := rfl

/-- A frame tick redraws both targets and then decays unless holding. -/
theorem onFrameTick_cases (s : State) :
    let s' : State :=
      { s with
        seed := lcgNext (lcgNext s.seed)
        tgt0 := drawValue s.low s.high (seedByte (lcgNext s.seed))
        tgt1 := drawValue s.low s.high (seedByte (lcgNext (lcgNext s.seed))) }
    (s.hold = true ∧ onFrameTick s = s') ∨ (s.hold = false ∧ onFrameTick s = decrement s') := by
  cases h : s.hold
  · exact .inr ⟨rfl, by simp only [onFrameTick, redraw_ch0, redraw_ch1, h, Bool.false_eq_true, if_false]⟩
  · exact .inl ⟨rfl, by simp only [onFrameTick, redraw_ch0, redraw_ch1, h, if_true]⟩

theorem rise_eq (s : State) : rise s =
    { increment { s with hold := true } with
      trace := (increment { s with hold := true }).trace ++ [.t1restart] } := rfl

theorem fall_eq (s : State) : fall s = { s with hold := false } := rfl

theorem ramp_cases (s : State) :
    (s.hold = true ∧ ramp s = increment s) ∨ (s.hold = false ∧ ramp s = s) := by
  cases h : s.hold <;> simp [ramp, h]

theorem edgeSvc_cases (s : State) :
    (s.pin = true ∧ edgeSvc s = rise s) ∨ (s.pin = false ∧ edgeSvc s = fall s) := by
  cases h : s.pin <;> simp [edgeSvc, pinRead, h]

/-! ## The four steps -/

theorem pwmBody_eq (s : State) :
    pwmBody s =
      { s with
        cnt0 := cntNext s.cnt0
        cnt1 := cntNext s.cnt1
        out := portOf (decide ((s.cnt1.toNat + 1) % 256 < s.tgt1.toNat))
                 (decide ((s.cnt0.toNat + 1) % 256 < s.tgt0.toNat))
        trace := s.trace ++ [.out (decide ((s.cnt1.toNat + 1) % 256 < s.tgt1.toNat))
                 (decide ((s.cnt0.toNat + 1) % 256 < s.tgt0.toNat))]
        fc := fcNext s.fc
        pend := ⟨false, s.pend.t1, s.pend.edge⟩ } := by
  simp only [pwmBody, commit, portWrite_eq, tick_ch0, tick_ch1]; rfl

theorem pwmStep_cases (s : State) :
    (s.pend.t0 = true ∧ pwmStep s = pwmBody s) ∨ (s.pend.t0 = false ∧ pwmStep s = s) := by
  cases h : s.pend.t0 <;> simp [pwmStep, h]

theorem frameStep_cases (s : State) :
    (2930 ≤ s.fc.toNat ∧ frameStep s = { onFrameTick s with fc := 0 }) ∨
    (s.fc.toNat < 2930 ∧ frameStep s = s) := by
  by_cases h : 2930 ≤ s.fc.toNat
  · exact .inl ⟨h, by simp only [frameStep, Config.frameDelay_eq, h, if_true]; rfl⟩
  · exact .inr ⟨by omega, by simp only [frameStep, Config.frameDelay_eq, h, if_false]⟩

theorem incBody_eq (s : State) :
    incBody s = { ramp s with pend := ⟨(ramp s).pend.t0, false, (ramp s).pend.edge⟩ } := rfl

theorem incStep_cases (s : State) :
    (s.pend.t1 = true ∧ incStep s = incBody s) ∨ (s.pend.t1 = false ∧ incStep s = s) := by
  cases h : s.pend.t1 <;> simp [incStep, h]

theorem edgeBody_eq (s : State) :
    edgeBody s = { edgeSvc s with pend := ⟨(edgeSvc s).pend.t0, (edgeSvc s).pend.t1, false⟩ } := rfl

theorem edgeStep_cases (s : State) :
    (s.pend.edge = true ∧ edgeStep s = edgeBody s) ∨ (s.pend.edge = false ∧ edgeStep s = s) := by
  cases h : s.pend.edge <;> simp [edgeStep, h]

/-- An event word runs an invocation on the presented state, or only presents it. -/
theorem invoke_cases (w : EventWord) (s : State) :
    (s.gie = true ∧ s.inService = false ∧ invoke w s = dispatch (present w s)) ∨
    (¬ (s.gie = true ∧ s.inService = false) ∧ invoke w s = present w s) := by
  have hg : (present w s).gie = s.gie := rfl
  have hi : (present w s).inService = s.inService := rfl
  cases h1 : s.gie <;> cases h2 : s.inService <;> simp [invoke, interruptible, hg, hi, h1, h2]

/-! ## Frames of the compound operations -/

theorem ramp_frame (s : State) :
    ramp s = { s with bright := (ramp s).bright, low := (ramp s).low, high := (ramp s).high } := by
  obtain ⟨-, h⟩ | ⟨-, h⟩ := ramp_cases s <;> rw [h]
  exact increment_frame s

theorem rise_frame (s : State) :
    rise s = { s with hold := true, trace := s.trace ++ [.t1restart], bright := (rise s).bright,
                      low := (rise s).low, high := (rise s).high } := by
  rw [rise_eq, increment_frame]

theorem edgeSvc_frame (s : State) :
    edgeSvc s = { s with hold := s.pin, trace := (edgeSvc s).trace, bright := (edgeSvc s).bright,
                         low := (edgeSvc s).low, high := (edgeSvc s).high } := by
  obtain ⟨hp, h⟩ | ⟨hp, h⟩ := edgeSvc_cases s <;> rw [h]
  · rw [rise_frame]
    cases s; cases hp; rfl
  · rw [fall_eq]
    cases s; cases hp; rfl

theorem onFrameTick_frame (s : State) :
    onFrameTick s =
      { s with
        seed := lcgNext (lcgNext s.seed)
        tgt0 := drawValue s.low s.high (seedByte (lcgNext s.seed))
        tgt1 := drawValue s.low s.high (seedByte (lcgNext (lcgNext s.seed)))
        bright := (onFrameTick s).bright
        low := (onFrameTick s).low
        high := (onFrameTick s).high } := by
  obtain ⟨-, h⟩ | ⟨-, h⟩ := onFrameTick_cases s <;> rw [h]
  rw [decrement_frame]

theorem pwmStep_frame (s : State) :
    pwmStep s = { s with cnt0 := (pwmStep s).cnt0, cnt1 := (pwmStep s).cnt1, out := (pwmStep s).out,
                         trace := (pwmStep s).trace, fc := (pwmStep s).fc,
                         pend := ⟨false, s.pend.t1, s.pend.edge⟩ } := by
  obtain ⟨-, h⟩ | ⟨ht, h⟩ := pwmStep_cases s <;> rw [h]
  · rw [pwmBody_eq]
  · rcases s with ⟨_, _, _, _, _, _, _, _, _, _, ⟨_, _, _⟩, _⟩; simp_all

theorem frameStep_frame (s : State) :
    frameStep s = { s with seed := (frameStep s).seed, tgt0 := (frameStep s).tgt0,
                           tgt1 := (frameStep s).tgt1, bright := (frameStep s).bright,
                           low := (frameStep s).low, high := (frameStep s).high,
                           fc := (frameStep s).fc } := by
  obtain ⟨-, h⟩ | ⟨-, h⟩ := frameStep_cases s <;> rw [h]
  rw [onFrameTick_frame]

theorem incStep_frame (s : State) :
    incStep s = { s with bright := (incStep s).bright, low := (incStep s).low,
                         high := (incStep s).high, pend := ⟨s.pend.t0, false, s.pend.edge⟩ } := by
  obtain ⟨-, h⟩ | ⟨ht, h⟩ := incStep_cases s <;> rw [h]
  · rw [incBody_eq, ramp_frame]
  · rcases s with ⟨_, _, _, _, _, _, _, _, _, _, ⟨_, _, _⟩, _⟩; simp_all

theorem edgeStep_frame (s : State) :
    edgeStep s = { s with bright := (edgeStep s).bright, low := (edgeStep s).low,
                          high := (edgeStep s).high, hold := (edgeStep s).hold,
                          trace := (edgeStep s).trace, pend := ⟨s.pend.t0, s.pend.t1, false⟩ } := by
  obtain ⟨-, h⟩ | ⟨ht, h⟩ := edgeStep_cases s <;> rw [h]
  · rw [edgeBody_eq, edgeSvc_frame]
  · rcases s with ⟨_, _, _, _, _, _, _, _, _, _, ⟨_, _, _⟩, _⟩; simp_all

/-! ## What becomes of `HOLD` -/

theorem edgeSvc_hold (s : State) : (edgeSvc s).hold = s.pin := by
  rw [edgeSvc_frame]

theorem edgeStep_hold (s : State) :
    (edgeStep s).hold = if s.pend.edge then s.pin else s.hold := by
  obtain ⟨he, h⟩ | ⟨he, h⟩ := edgeStep_cases s <;> simp only [h, he]
  · exact edgeSvc_hold s
  · rfl

/-- An invocation copies the pin into `HOLD` exactly when an edge is pending; otherwise `HOLD` and `PIN`
may go on disagreeing (R147, R154). -/
theorem dispatch_hold (s : State) :
    (dispatch s).hold = if s.pend.edge then s.pin else s.hold := by
  rw [show (dispatch s).hold = (edgeStep (incStep (frameStep (pwmStep (enter s))))).hold from rfl,
    edgeStep_hold, incStep_frame, frameStep_frame, pwmStep_frame]
  rfl

end Sys2Proof.Machine
end

