-- ==== Sys2Proof/Laws/PerInstr.lean ====
section
/-! SUPPORT. Facts stated of every instruction as syntax, one lemma per constructor. -/

namespace Sys2Proof.Laws

/-- The encoding of an instruction decodes to it and is a well-formed command (R82 to R87). -/
def EncodingRoundTrip.Statement (i : Instr) : Prop :=
  decode (encode i) = .ok i ∧ (encode i).wellFormed = true

theorem EncodingRoundTrip.slotP : EncodingRoundTrip.Statement .slotP := ⟨rfl, rfl⟩
theorem EncodingRoundTrip.slotI : EncodingRoundTrip.Statement .slotI := ⟨rfl, rfl⟩
theorem EncodingRoundTrip.slotRise : EncodingRoundTrip.Statement .slotRise := ⟨rfl, rfl⟩
theorem EncodingRoundTrip.slotFall : EncodingRoundTrip.Statement .slotFall := ⟨rfl, rfl⟩
theorem EncodingRoundTrip.slotNone : EncodingRoundTrip.Statement .slotNone := ⟨rfl, rfl⟩
theorem EncodingRoundTrip.evNone : EncodingRoundTrip.Statement .evNone := ⟨rfl, rfl⟩
theorem EncodingRoundTrip.evP : EncodingRoundTrip.Statement .evP := ⟨rfl, rfl⟩
theorem EncodingRoundTrip.evI : EncodingRoundTrip.Statement .evI := ⟨rfl, rfl⟩
theorem EncodingRoundTrip.evPI : EncodingRoundTrip.Statement .evPI := ⟨rfl, rfl⟩
theorem EncodingRoundTrip.evFall : EncodingRoundTrip.Statement .evFall := ⟨rfl, rfl⟩
theorem EncodingRoundTrip.evPFall : EncodingRoundTrip.Statement .evPFall := ⟨rfl, rfl⟩
theorem EncodingRoundTrip.evIFall : EncodingRoundTrip.Statement .evIFall := ⟨rfl, rfl⟩
theorem EncodingRoundTrip.evPIFall : EncodingRoundTrip.Statement .evPIFall := ⟨rfl, rfl⟩
theorem EncodingRoundTrip.evNoneL : EncodingRoundTrip.Statement .evNoneL := ⟨rfl, rfl⟩
theorem EncodingRoundTrip.evPL : EncodingRoundTrip.Statement .evPL := ⟨rfl, rfl⟩
theorem EncodingRoundTrip.evIL : EncodingRoundTrip.Statement .evIL := ⟨rfl, rfl⟩
theorem EncodingRoundTrip.evPIL : EncodingRoundTrip.Statement .evPIL := ⟨rfl, rfl⟩
theorem EncodingRoundTrip.evRise : EncodingRoundTrip.Statement .evRise := ⟨rfl, rfl⟩
theorem EncodingRoundTrip.evPRise : EncodingRoundTrip.Statement .evPRise := ⟨rfl, rfl⟩
theorem EncodingRoundTrip.evIRise : EncodingRoundTrip.Statement .evIRise := ⟨rfl, rfl⟩
theorem EncodingRoundTrip.evPIRise : EncodingRoundTrip.Statement .evPIRise := ⟨rfl, rfl⟩
theorem EncodingRoundTrip.seed : EncodingRoundTrip.Statement .seed := ⟨rfl, rfl⟩
theorem EncodingRoundTrip.nextByte : EncodingRoundTrip.Statement .nextByte := ⟨rfl, rfl⟩
theorem EncodingRoundTrip.tick (ch : Channel) : EncodingRoundTrip.Statement (.tick ch) := by
  cases ch <;> exact ⟨rfl, rfl⟩
theorem EncodingRoundTrip.setTarget (ch : Channel) (v : Byte) : EncodingRoundTrip.Statement (.setTarget ch v) := by
  cases ch <;> exact ⟨rfl, rfl⟩
theorem EncodingRoundTrip.commit (o1 o0 : Bool) : EncodingRoundTrip.Statement (.commit o1 o0) := by
  cases o1 <;> cases o0 <;> exact ⟨rfl, rfl⟩
theorem EncodingRoundTrip.edges : EncodingRoundTrip.Statement .edges := ⟨rfl, rfl⟩
theorem EncodingRoundTrip.increment : EncodingRoundTrip.Statement .increment := ⟨rfl, rfl⟩
theorem EncodingRoundTrip.decrement : EncodingRoundTrip.Statement .decrement := ⟨rfl, rfl⟩
theorem EncodingRoundTrip.draw (ch : Channel) : EncodingRoundTrip.Statement (.draw ch) := by
  cases ch <;> exact ⟨rfl, rfl⟩
theorem EncodingRoundTrip.onFrameTick : EncodingRoundTrip.Statement .onFrameTick := ⟨rfl, rfl⟩
theorem EncodingRoundTrip.rise : EncodingRoundTrip.Statement .rise := ⟨rfl, rfl⟩
theorem EncodingRoundTrip.fall : EncodingRoundTrip.Statement .fall := ⟨rfl, rfl⟩
theorem EncodingRoundTrip.t1restart : EncodingRoundTrip.Statement .t1restart := ⟨rfl, rfl⟩
theorem EncodingRoundTrip.ramp : EncodingRoundTrip.Statement .ramp := ⟨rfl, rfl⟩
theorem EncodingRoundTrip.edgeSvc : EncodingRoundTrip.Statement .edgeSvc := ⟨rfl, rfl⟩
theorem EncodingRoundTrip.pwmStep : EncodingRoundTrip.Statement .pwmStep := ⟨rfl, rfl⟩
theorem EncodingRoundTrip.frameStep : EncodingRoundTrip.Statement .frameStep := ⟨rfl, rfl⟩
theorem EncodingRoundTrip.incStep : EncodingRoundTrip.Statement .incStep := ⟨rfl, rfl⟩
theorem EncodingRoundTrip.edgeStep : EncodingRoundTrip.Statement .edgeStep := ⟨rfl, rfl⟩
theorem EncodingRoundTrip.dispatch : EncodingRoundTrip.Statement .dispatch := ⟨rfl, rfl⟩
theorem EncodingRoundTrip.idle : EncodingRoundTrip.Statement .idle := ⟨rfl, rfl⟩
theorem EncodingRoundTrip.reset : EncodingRoundTrip.Statement .reset := ⟨rfl, rfl⟩
theorem EncodingRoundTrip.start : EncodingRoundTrip.Statement .start := ⟨rfl, rfl⟩

end Sys2Proof.Laws
end

