-- ==== Sys2Proof/Laws/Step.lean ====
section
/-! SUPPORT. What a step can do: the cases of the agenda, once. -/

namespace Sys2Proof.Machine

/-- An inversion of a step that answers a next state: an environment step, an instruction that a
command names, or the machine's own invocation or idling. -/
theorem step_cases {s t : State} (h : step s = .next t) :
    (∃ e rest, s.agenda = .env e :: rest ∧ t = environment e (s.setAgenda rest)) ∨
    (∃ c rest i, s.agenda = .command c :: rest ∧ decode c = .ok i ∧ exec i (s.setAgenda rest) = .next t) ∨
    (∃ rest, (s.agenda = .dispatcher :: rest ∨ (s.agenda = [] ∧ rest = [])) ∧
      exec (autonomous s) (s.setAgenda rest) = .next t) := by
  cases hs : s.agenda with
  | nil =>
    have : s.setAgenda [] = s := by cases s; cases hs; rfl
    refine .inr (.inr ⟨[], .inr ⟨rfl, rfl⟩, ?_⟩)
    simpa only [step, fetch, hs, this] using h
  | cons turn rest =>
    cases turn with
    | env e =>
      refine .inl ⟨e, rest, rfl, ?_⟩
      simp only [step, fetch, hs, Host.Outcome.next.injEq] at h
      exact h.symm
    | dispatcher =>
      exact .inr (.inr ⟨rest, .inl rfl, by simpa only [step, fetch, hs] using h⟩)
    | command c =>
      refine .inr (.inl ?_)
      cases hc : decode c with
      | ok i => exact ⟨c, rest, i, rfl, hc, by simpa only [step, fetch, hs, hc] using h⟩
      | error why => simp [step, fetch, hs, hc] at h

/-- What the machine does of itself is DISPATCH when an invocation may begin, and IDLE otherwise. -/
theorem autonomous_cases (s : State) :
    (mayBegin s = true ∧ autonomous s = .dispatch) ∨ (mayBegin s = false ∧ autonomous s = .idle) := by
  cases h : mayBegin s <;> simp [autonomous, h]

end Sys2Proof.Machine

namespace Sys2Proof.Safety

open Sys2Proof.Machine

theorem execAll_append (l m : List Instr) (s t : State) (h : execAll l s = .next t) :
    execAll (l ++ m) s = execAll m t := by
  induction l generalizing s with
  | nil => simp only [execAll, Host.Outcome.next.injEq] at h; simp [h]
  | cons i is ih =>
    simp only [execAll, List.cons_append] at h ⊢
    split at h <;> simp_all

theorem execTimes_zero (i : Instr) (s : State) : execTimes i 0 s = .next s := rfl

theorem execTimes_succ (i : Instr) (n : Nat) (s t : State) (h : exec i s = .next t) :
    execTimes i (n + 1) s = execTimes i n t := by
  simp [execTimes, List.replicate_succ, execAll, h]

end Sys2Proof.Safety
end

