-- ==== Sys2Proof/Laws/Trace.lean ====
section
/-! SUPPORT. What a trace line does, once per kind of line; a pseudo-operation is its expansion (R89). -/

namespace Sys2Proof.Machine

@[simp] theorem forceRegs_nil (s : State) : forceRegs [] s = s := rfl

@[simp] theorem forceRegs_cons (r : Reg) (v : Nat) (l : List (Reg × Nat)) (s : State) :
    forceRegs ((r, v) :: l) s = forceRegs l (forceReg r v s) := rfl

/-- The n lines `D <slots>` that `D <slots> *<n>` stands for split anywhere. -/
theorem invokeTimes_add (w : EventWord) (m n : Nat) (s : State) :
    invokeTimes w (m + n) s = invokeTimes w n (invokeTimes w m s) := by
  induction m generalizing s with
  | zero => simp [invokeTimes]
  | succ m ih => rw [Nat.succ_add]; exact ih (invoke w s)

theorem runInvocations_isSome (w : EventWord) (n : Nat) (s : State) :
    (runInvocations w n s).isSome = true ↔ 1 ≤ n := by
  unfold runInvocations; split <;> simp <;> omega

theorem runLine_holdPress (s : State) : runLine .holdPress s = runLine (.d 0b1100 1) s := rfl

theorem runLine_holdRelease (s : State) : runLine .holdRelease s = runLine (.d 0b0100 1) s := rfl

theorem runLine_frame (s : State) : runLine .frame s = runLine (.d 0b0001 (2930 - s.fc.toNat)) s := rfl

/-- `FRAME` is an error exactly where its expansion is. -/
theorem runLine_frame_isSome (s : State) : (runLine .frame s).isSome = true ↔ s.fc.toNat < 2930 := by
  rw [runLine_frame]
  exact (runInvocations_isSome _ _ _).trans (by omega)

end Sys2Proof.Machine
end

