-- ==== Sys2Proof/Tests/Slice0.lean ====
section
/-! SUPPORT. Tests: ill-formed commands refused, every constructor decoded from a word written out from
the spec's tables, single steps against the vectors of `95_test_vectors.md`, and for every statement
with hypotheses a state and operands that meet them. Expected values are the spec's. -/

namespace Sys2Proof.Tests

open Sys2Proof.Machine Sys2Proof.Safety

/-! ## Ill-formed commands, one for each check -/

theorem test_wf_slot_label : Command.wellFormed ⟨.slot, 0b0011, 0, 0⟩ = false ∧
    Command.wellFormed ⟨.slot, 16, 0, 0⟩ = false := by decide
theorem test_wf_slot_operand : Command.wellFormed ⟨.slot, 1, 1, 0⟩ = false ∧
    Command.wellFormed ⟨.slot, 1, 0, 1⟩ = false := by decide
theorem test_wf_evw_label : Command.wellFormed ⟨.evw, 16, 0, 0⟩ = false := by decide
theorem test_wf_evw_operand : Command.wellFormed ⟨.evw, 1, 1, 0⟩ = false ∧
    Command.wellFormed ⟨.evw, 1, 0, 1⟩ = false := by decide
theorem test_wf_opn_unassigned : Command.wellFormed ⟨.opn, 23, 0, 0⟩ = false := by decide
theorem test_wf_channel : Command.wellFormed ⟨.opn, 2, 2, 0⟩ = false ∧
    Command.wellFormed ⟨.opn, 3, 2, 0⟩ = false ∧ Command.wellFormed ⟨.opn, 8, 2, 0⟩ = false := by decide
theorem test_wf_level : Command.wellFormed ⟨.opn, 4, 2, 0⟩ = false ∧
    Command.wellFormed ⟨.opn, 4, 0, 2⟩ = false := by decide
theorem test_wf_stray_operand : Command.wellFormed ⟨.opn, 2, 0, 1⟩ = false ∧
    Command.wellFormed ⟨.opn, 8, 0, 1⟩ = false ∧ Command.wellFormed ⟨.opn, 5, 1, 0⟩ = false ∧
    Command.wellFormed ⟨.opn, 5, 0, 1⟩ = false := by decide

theorem test_reject_names :
    decode ⟨.slot, 0b0011, 0, 0⟩ = .error .severalSlots ∧ decode ⟨.evw, 16, 0, 0⟩ = .error .labelTooWide ∧
    decode ⟨.opn, 31, 0, 0⟩ = .error .unassigned ∧ decode ⟨.opn, 32, 0, 0⟩ = .error .labelTooWide ∧
    decode ⟨.opn, 2, 2, 0⟩ = .error .badChannel ∧ decode ⟨.opn, 4, 0, 2⟩ = .error .badLevel ∧
    decode ⟨.opn, 5, 0, 1⟩ = .error .strayOperand := by decide

/-! ## Decoding, word by word: R83 (slots), R161 (event words `LEIP`), R84 (operation numbers) -/

theorem test_decode_slots :
    decode ⟨.slot, 0b0001, 0, 0⟩ = .ok .slotP ∧ decode ⟨.slot, 0b0010, 0, 0⟩ = .ok .slotI ∧
    decode ⟨.slot, 0b1100, 0, 0⟩ = .ok .slotRise ∧ decode ⟨.slot, 0b0100, 0, 0⟩ = .ok .slotFall ∧
    decode ⟨.slot, 0b0000, 0, 0⟩ = .ok .slotNone ∧ decode ⟨.slot, 0b1000, 0, 0⟩ = .ok .slotNone := by decide

theorem test_decode_event_words :
    decode ⟨.evw, 0b0000, 0, 0⟩ = .ok .evNone ∧ decode ⟨.evw, 0b0001, 0, 0⟩ = .ok .evP ∧
    decode ⟨.evw, 0b0010, 0, 0⟩ = .ok .evI ∧ decode ⟨.evw, 0b0011, 0, 0⟩ = .ok .evPI ∧
    decode ⟨.evw, 0b0100, 0, 0⟩ = .ok .evFall ∧ decode ⟨.evw, 0b0101, 0, 0⟩ = .ok .evPFall ∧
    decode ⟨.evw, 0b0110, 0, 0⟩ = .ok .evIFall ∧ decode ⟨.evw, 0b0111, 0, 0⟩ = .ok .evPIFall ∧
    decode ⟨.evw, 0b1000, 0, 0⟩ = .ok .evNoneL ∧ decode ⟨.evw, 0b1001, 0, 0⟩ = .ok .evPL ∧
    decode ⟨.evw, 0b1010, 0, 0⟩ = .ok .evIL ∧ decode ⟨.evw, 0b1011, 0, 0⟩ = .ok .evPIL ∧
    decode ⟨.evw, 0b1100, 0, 0⟩ = .ok .evRise ∧ decode ⟨.evw, 0b1101, 0, 0⟩ = .ok .evPRise ∧
    decode ⟨.evw, 0b1110, 0, 0⟩ = .ok .evIRise ∧ decode ⟨.evw, 0b1111, 0, 0⟩ = .ok .evPIRise := by decide

theorem test_decode_operations_0_to_11 :
    decode ⟨.opn, 0b00000, 0, 0⟩ = .ok .seed ∧ decode ⟨.opn, 0b00001, 0, 0⟩ = .ok .nextByte ∧
    decode ⟨.opn, 0b00010, 1, 0⟩ = .ok (.tick .ch1) ∧
    decode ⟨.opn, 0b00011, 0, 23⟩ = .ok (.setTarget .ch0 23) ∧
    decode ⟨.opn, 0b00100, 1, 0⟩ = .ok (.commit true false) ∧
    decode ⟨.opn, 0b00101, 0, 0⟩ = .ok .edges ∧ decode ⟨.opn, 0b00110, 0, 0⟩ = .ok .increment ∧
    decode ⟨.opn, 0b00111, 0, 0⟩ = .ok .decrement ∧ decode ⟨.opn, 0b01000, 1, 0⟩ = .ok (.draw .ch1) ∧
    decode ⟨.opn, 0b01001, 0, 0⟩ = .ok .onFrameTick ∧ decode ⟨.opn, 0b01010, 0, 0⟩ = .ok .rise ∧
    decode ⟨.opn, 0b01011, 0, 0⟩ = .ok .fall := by decide

theorem test_decode_operations_12_to_22 :
    decode ⟨.opn, 0b01100, 0, 0⟩ = .ok .t1restart ∧ decode ⟨.opn, 0b01101, 0, 0⟩ = .ok .ramp ∧
    decode ⟨.opn, 0b01110, 0, 0⟩ = .ok .edgeSvc ∧ decode ⟨.opn, 0b01111, 0, 0⟩ = .ok .pwmStep ∧
    decode ⟨.opn, 0b10000, 0, 0⟩ = .ok .frameStep ∧ decode ⟨.opn, 0b10001, 0, 0⟩ = .ok .incStep ∧
    decode ⟨.opn, 0b10010, 0, 0⟩ = .ok .edgeStep ∧ decode ⟨.opn, 0b10011, 0, 0⟩ = .ok .dispatch ∧
    decode ⟨.opn, 0b10100, 0, 0⟩ = .ok .idle ∧ decode ⟨.opn, 0b10101, 0, 0⟩ = .ok .reset ∧
    decode ⟨.opn, 0b10110, 0, 0⟩ = .ok .start := by decide

theorem test_table_words :
    decodeTableWord 8 0b1110 = some .evIRise ∧ decodeTableWord 8 19 = some .dispatch ∧
    decodeTableWord 5 7 = some .decrement ∧ decodeTableWord 24 0x170103 = some (.setTarget .ch1 23) ∧
    decodeTableWord 8 23 = none := by decide

/-! ## Single steps -/

/-- Whether a meaning or a step answers a next state with property `p`. -/
def answers (r : Result) (p : State → Bool) : Bool :=
  match r with
  | .next t => p t
  | .fault _ => false
  | .refused _ => false

/-- Brightness with the edges that belong to it, as a `SET BRIGHT=` line does (R88). -/
def lit (b : Byte) (s : State) : State := forceReg .bright b.toNat s

/-- Start state X of `95_test_vectors.md` section 4.6, with `HOLD` as given. -/
def stateX (hold : Bool) : State :=
  { lit 100 State.reset with cnt0 := 16, cnt1 := 16, tgt0 := 18, tgt1 := 17, fc := 10, out := 0b11, hold := hold }

theorem test_nextByte : answers (exec .nextByte { State.reset with seed := 1 })
    (fun t => t.seed == 0x41C67EA6 && t.ret == 198) = true := by decide
theorem test_nextByte_wraps : answers (exec .nextByte { State.reset with seed := 0xFFFFFFFF })
    (fun t => t.seed == 0xBE39E1CC && t.ret == 57) = true := by decide
theorem test_tick_wraps : answers (exec (.tick .ch1) { State.reset with cnt1 := 255 })
    (fun t => t.cnt1 == 0 && t.cnt0 == 0 && t.ret == 1) = true := by decide
theorem test_tick_compares_after_increment :
    answers (exec (.tick .ch0) { State.reset with cnt0 := 17, tgt0 := 18 })
      (fun t => t.cnt0 == 18 && t.ret == 0) = true := by decide
theorem test_setTarget_keeps_port :
    answers (exec (.setTarget .ch1 200) { State.reset with tgt1 := 17, out := 0b11 })
      (fun t => t.tgt1 == 200 && t.tgt0 == 1 && t.out == 0b11) = true := by decide
theorem test_commit_order : answers (exec (.commit false true) State.reset)
    (fun t => t.out == 0b01 && t.trace == [.out false true]) = true := by decide
theorem test_edges : answers (exec .edges { State.reset with bright := 128 })
    (fun t => t.low == 25 && t.high == 143) = true := by decide
theorem test_increment : answers (exec .increment (lit 100 State.reset))
    (fun t => t.bright == 101 && t.low == 19 && t.high == 119) = true := by decide
theorem test_decrement : answers (exec .decrement (lit 255 State.reset))
    (fun t => t.bright == 254 && t.low == 49 && t.high == 254) = true := by decide
theorem test_draw_guard :
    answers (exec (.draw .ch0) { State.reset with low := 9, high := 8, seed := 0x2A })
      (fun t => t.ret == 9 && t.seed == 0xCA890E1B) = true := by decide
theorem test_onFrameTick : answers (exec .onFrameTick (lit 100 State.reset))
    (fun t => t.tgt0 == 19 && t.tgt1 == 41 && t.bright == 99 && t.high == 117 && t.seed == 0xD3DC167E)
      = true := by decide
theorem test_onFrameTick_uses_old_edges :
    answers (exec .onFrameTick { lit 6 State.reset with seed := 0x2A })
      (fun t => t.tgt0 == 2 && t.tgt1 == 2 && t.bright == 5) = true := by decide
theorem test_rise_at_ceiling : answers (exec .rise (lit 255 State.reset))
    (fun t => t.hold && t.bright == 255 && t.trace == [.t1restart]) = true := by decide
theorem test_edgeSvc_rise_while_holding :
    answers (exec .edgeSvc { lit 100 State.reset with pin := true, hold := true })
      (fun t => t.hold && t.bright == 101 && t.trace == [.t1restart]) = true := by decide
theorem test_pwmStep_saturates :
    answers (exec .pwmStep { State.reset with fc := 4095, pend := ⟨true, false, true⟩ })
      (fun t => t.fc == 4095 && t.pend == ⟨false, false, true⟩ && t.cnt0 == 1) = true := by decide
theorem test_incStep_clears_regardless :
    answers (exec .incStep { lit 7 State.reset with pend := ⟨true, true, false⟩ })
      (fun t => t.bright == 7 && t.pend == ⟨true, false, false⟩) = true := by decide
theorem test_edgeStep_ignores_pin_without_flag :
    answers (exec .edgeStep { State.reset with pin := true }) (fun t => t == { State.reset with pin := true })
      = true := by decide
theorem test_dispatch_worked_example :
    answers (exec .dispatch { State.reset with pend := ⟨true, false, true⟩, fc := 7, hold := true })
      (fun t => t.fc == 8 && t.cnt0 == 1 && !t.hold && t.pend == ⟨false, false, false⟩ && !t.inService)
      = true := by decide
theorem test_evPIRise_holding : answers (exec .evPIRise (stateX true))
    (fun t => t.bright == 102 && t.high == 120 && t.fc == 11 && t.out == 0b01 &&
      t.trace == [.out false true, .t1restart]) = true := by decide
theorem test_evIFall_ramps_before_falling : answers (exec .evIFall (stateX true))
    (fun t => t.bright == 101 && !t.hold) = true := by decide
theorem test_evPRise_at_the_frame :
    answers (exec .evPRise { stateX false with fc := 2929 })
      (fun t => t.bright == 100 && t.hold && t.tgt0 == 19 && t.tgt1 == 41 && t.fc == 0) = true := by decide
theorem test_evI_frame_without_tick : answers (exec .evI { stateX false with fc := 3000 })
    (fun t => t.tgt1 == 41 && t.bright == 99 && t.fc == 0 && t.trace == []) = true := by decide
theorem test_pin_asserted_at_boot :
    answers (step { State.cold 0 (pendingOf 0b100) true with agenda := [] })
      (fun t => t.hold && t.bright == 1 && t.trace == [.t1restart]) = true := by decide
theorem test_reset_runs_a_table_word : answers (step (State.reset.withFetchWord 8 0b0001))
    (fun t => t.cnt0 == 1 && t.cnt1 == 1 && t.fc == 1 && t.out == 0b00 && t.agenda == []) = true := by decide

/-- The `SET` line of Program 3 of `95_test_vectors.md`, and the order of the model's choice (log 22). -/
theorem test_set_line :
    (runLine (.set [(.bright, 50), (.hold, 1), (.pin, 1), (.fc, 2929), (.cnt0, 200), (.cnt1, 200), (.tgt0, 30),
      (.tgt1, 201)]) State.reset).any (fun t => t.low == 9 && t.high == 74 && t.hold && t.pin && t.fc == 2929 &&
        t.cnt0 == 200 && t.cnt1 == 200 && t.tgt0 == 30 && t.tgt1 == 201) = true ∧
    (runLine (.set [(.low, 9), (.bright, 100)]) State.reset).any (fun t => t.low == 19) = true ∧
    (runLine (.set [(.bright, 100), (.low, 9)]) State.reset).any (fun t => t.low == 9) = true := by decide
theorem test_frame_is_its_expansion :
    (runLine .frame (stateX false)).isSome = true ∧
    (runLine .frame { stateX false with fc := 2929 }).any (fun t => t.fc == 0 && t.bright == 99) = true ∧
    runLine .frame { stateX false with fc := 2930 } = none ∧ runLine (.d 0b0001 0) State.reset = none := by
  refine ⟨(runLine_frame_isSome _).2 ?_, ?_, ?_, ?_⟩ <;> decide

/-! ## Witnesses: the hypotheses of the statements can be met, at the boundaries of their clauses -/

theorem witness_decodedCommand :
    decode ⟨.slot, 9, 0, 0⟩ = .ok .slotP ∧ decode ⟨.opn, 3, 1, 255⟩ = .ok (.setTarget .ch1 255) := by decide
theorem witness_unassigned :
    23 ≤ (23 : Byte).toNat ∧ (23 : Byte).toNat ≤ 31 ∧ 23 ≤ (31 : Byte).toNat ∧ (31 : Byte).toNat ≤ 31 := by decide
theorem witness_stepRunsDecoded :
    ({ State.reset with agenda := [.command ⟨.evw, 1, 0, 0⟩] } : State).agenda = .command ⟨.evw, 1, 0, 0⟩ :: [] ∧
    decode ⟨.evw, 1, 0, 0⟩ = .ok .evP ∧ decodeTableWord 8 1 = some .evP := by decide
theorem witness_invocationBegins :
    (let s := { State.reset with pend := ⟨false, true, false⟩ }
     s.gie = true ∧ s.inService = false ∧ (s.pend.t0 = true ∨ s.pend.t1 = true ∨ s.pend.edge = true)) ∧
    (let s := State.reset
     ¬ (s.gie = true ∧ s.inService = false ∧ (s.pend.t0 = true ∨ s.pend.t1 = true ∨ s.pend.edge = true))) := by
  decide
theorem witness_highSeedBits : (0x01000005 : Seed).toNat % 2 ^ 24 = (0xFF000005 : Seed).toNat % 2 ^ 24 := by decide
theorem witness_edgesMonotone : (0 : Byte).toNat ≤ (255 : Byte).toNat := by decide
/-- For `OutputPredicateHoldsAtCommits` and the first clause of `PwmStepServicesTheTick`; the second
clause of the latter is met by reset. -/
theorem witness_tickPending :
    ({ State.reset with pend := ⟨true, false, false⟩ } : State).pend.t0 = true ∧ State.reset.pend.t0 = false := by
  decide
/-- For the statements about an interruptible state with nothing pending, at the highest frame count each
allows: the duty (2674), a frame, event words, spurious invocation and no frame tick without a PWM tick
(2929). -/
theorem witness_interruptible :
    (let s := { State.reset with fc := 2674 }
     s.gie = true ∧ s.inService = false ∧ s.pend = ⟨false, false, false⟩ ∧ s.fc.toNat + 256 ≤ 2930) ∧
    (let s := { State.reset with fc := 2929 }
     s.gie = true ∧ s.inService = false ∧ s.pend = ⟨false, false, false⟩ ∧ s.fc.toNat ≤ 2929 ∧
       0 < 2930 - s.fc.toNat ∧ s.pend.t0 = false) := by decide
theorem witness_portChanges :
    answers (exec (.commit true true) State.reset) (fun t => t.out != State.reset.out) = true := by decide
theorem witness_brightnessClauses :
    (lit 254 State.reset).bright.toNat < 255 ∧ (lit 255 State.reset).bright.toNat = 255 ∧
    0 < (lit 1 State.reset).bright.toNat ∧ (lit 0 State.reset).bright.toNat = 0 := by decide
theorem witness_brightnessMoves :
    answers (exec .evPIRise (stateX true)) (fun t => t.bright.toNat == (stateX true).bright.toNat + 2) = true ∧
    answers (exec .increment (stateX true)) (fun t => t.bright.toNat == (stateX true).bright.toNat + 1) = true := by
  decide
theorem witness_drawClauses :
    State.reset.low.toNat < State.reset.high.toNat ∧
    (let s := { State.reset with low := 7, high := 7 }; s.high.toNat ≤ s.low.toNat) ∧
    (let s := { State.reset with low := 7, high := 8 }; s.low.toNat < s.high.toNat) := by decide
theorem witness_edgesAgree : edgesAgree State.reset = true ∧ edgesAgree (lit 255 State.reset) = true := by decide
/-- For the frame tick and its decay, RAMP, and the middle clauses of INCSTEP. -/
theorem witness_holdClauses :
    (let s := lit 1 State.reset; s.hold = false ∧ 0 < s.bright.toNat) ∧
    (let s := { lit 1 State.reset with hold := true }; ¬ (s.hold = false ∧ 0 < s.bright.toNat) ∧ s.hold = true) ∧
    ¬ (State.reset.hold = false ∧ 0 < State.reset.bright.toNat) := by decide
theorem witness_pinClauses :
    ({ State.reset with pin := true } : State).pin = true ∧ State.reset.pin = false := by decide
theorem witness_holdChanges :
    answers (exec .evRise State.reset) (fun t => t.hold != State.reset.hold && t.hold == t.pin) = true ∧
    answers (exec .rise State.reset) (fun t => t.hold != State.reset.hold) = true ∧
    (let s := { State.reset with pin := true, pend := ⟨false, false, true⟩ }
     s.pend.edge = true ∧ answers (exec .evP s) (fun t => t.hold != s.hold && t.hold == t.pin) = true) := by decide
/-- `HOLD` and `PIN` may disagree while no edge is pending (R147), and an invocation leaves them so. -/
theorem test_dispatch_does_not_copy_the_pin :
    answers (exec .dispatch { State.reset with pin := true, pend := ⟨true, true, false⟩ })
      (fun t => !t.hold && t.pin) = true := by decide
theorem witness_frameStepClauses :
    2930 ≤ ({ State.reset with fc := 2930 } : State).fc.toNat ∧
    ({ State.reset with fc := 2929 } : State).fc.toNat < 2930 := by decide
theorem witness_incStepClauses :
    (let s := { State.reset with pend := ⟨false, true, false⟩, hold := true }; s.pend.t1 = true ∧ s.hold = true) ∧
    (let s := { State.reset with pend := ⟨false, true, false⟩ }; s.pend.t1 = true ∧ s.hold = false) ∧
    State.reset.pend.t1 = false := by decide
theorem witness_edgeStepClauses :
    (let s := { State.reset with pend := ⟨false, false, true⟩, pin := true }; s.pend.edge = true ∧ s.pin = true) ∧
    (let s := { State.reset with pend := ⟨false, false, true⟩ }; s.pend.edge = true ∧ s.pin = false) ∧
    State.reset.pend.edge = false := by decide
/-- For `NoFrameTickWithoutAPwmTick`, at the highest frame count, by the Dispatcher with another flag. -/
theorem witness_noFrameTick :
    (let s := { State.reset with fc := 2929, pend := ⟨false, true, true⟩ }
     s.fc.toNat ≤ 2929 ∧ s.pend.t0 = false) ∧
    Instr.dispatch ∈ [Instr.dispatch, .evNone, .evI, .evFall, .evIFall, .evNoneL, .evIL, .evRise, .evIRise] := by
  decide
theorem witness_heldOff :
    (let s := { State.reset with gie := false }; s.gie = false ∨ s.inService = true) ∧
    (let s := { State.reset with inService := true }; s.gie = false ∨ s.inService = true) ∧
    answers (exec .evPIFall { State.reset with gie := false, pin := true })
      (fun t => t.pend == ⟨true, true, true⟩ && !t.pin && t.cnt0 == 0) = true := by decide
theorem witness_stepsSeeTheHoldOfBefore :
    (let s := { lit 1 State.reset with fc := 2929 }
     s.gie = true ∧ s.inService = false ∧ s.pend = ⟨false, false, false⟩ ∧ 0 < s.bright.toNat ∧
       s.bright.toNat < 255 ∧ s.fc.toNat = 2929 ∧ s.hold = false) ∧
    (let s := { lit 254 State.reset with fc := 2929, hold := true }
     s.gie = true ∧ s.inService = false ∧ s.pend = ⟨false, false, false⟩ ∧ 0 < s.bright.toNat ∧
       s.bright.toNat < 255 ∧ s.fc.toNat = 2929 ∧ s.hold = true) ∧
    (let s := { lit 254 State.reset with fc := 2928 }
     s.gie = true ∧ s.inService = false ∧ s.pend = ⟨false, false, false⟩ ∧ 0 < s.bright.toNat ∧
       s.bright.toNat < 255 ∧ s.fc.toNat < 2929 ∧ s.hold = false) ∧
    (let s := { lit 1 State.reset with fc := 2928, hold := true }
     s.gie = true ∧ s.inService = false ∧ s.pend = ⟨false, false, false⟩ ∧ 0 < s.bright.toNat ∧
       s.bright.toNat < 255 ∧ s.fc.toNat < 2929 ∧ s.hold = true) := by decide
theorem witness_startForEver :
    State.reset.gie = true ∧ answers (step State.reset) (fun _ => true) = true := by decide
theorem witness_invariants :
    settled State.reset = true ∧ reachable State.reset = true ∧
    reachable { State.reset with fc := 5, cnt0 := 200, cnt1 := 200, out := 0b11, trace := [.out true true] } = false ∧
    reachable { State.reset with agenda := [.env .timer0, .dispatcher, .command ⟨.evw, 15, 0, 0⟩] } = true ∧
    answers (step State.reset) (fun _ => true) = true := by decide

end Sys2Proof.Tests
end

section
/-! SUPPORT. The one write of the output port: what COMMIT does to the state (R63, R112). -/

namespace Sys2Proof.Proofs

open Sys2Proof Sys2Proof.Machine

/-- The state COMMIT leaves: the port and one output event, every other field as it was (R63, R112). -/
theorem exec_commit (o1 o0 : Bool) (s : State) :
    exec (.commit o1 o0) s =
      .next { s with out := portOf o1 o0, trace := s.trace ++ [.out o1 o0] } := by
  have hexec : exec (.commit o1 o0) s = .next (portWrite o1 o0 s) := rfl
  rw [hexec, portWrite_eq]

/-- Settles O18: the state after COMMIT is known outright, and its port reads back both levels. -/
theorem commitWritesBothLevelsAtOnce : Obligations.CommitWritesBothLevelsAtOnce := by
  intro s o1 o0
  exact ⟨_, exec_commit o1 o0 s, portOf_bit1 o1 o0, portOf_bit0 o1 o0, rfl, rfl⟩

end Sys2Proof.Proofs
end

section
/-! SUPPORT. The Dispatcher's steps S3 and S4 where their flag is pending, and what INCSTEP and EDGESTEP
do (R153, R154). -/

namespace Sys2Proof.Proofs

open Sys2Proof Sys2Proof.Machine

/-! ## The operations, executed -/

theorem exec_increment (s : State) : exec .increment s = .next (increment s) := rfl

theorem exec_rise (s : State) : exec .rise s = .next (rise s) := rfl

theorem exec_fall (s : State) : exec .fall s = .next (fall s) := rfl

theorem exec_edgeSvc (s : State) : exec .edgeSvc s = .next (edgeSvc s) := rfl

theorem exec_incStep (s : State) : exec .incStep s = .next (incStep s) := rfl

theorem exec_edgeStep (s : State) : exec .edgeStep s = .next (edgeStep s) := rfl

/-! ## RAMP by `HOLD`, the edge service by the pin -/

theorem ramp_of_hold {s : State} (hh : s.hold = true) : ramp s = increment s := by
  simp [ramp, hh]

theorem ramp_of_not_hold {s : State} (hh : s.hold = false) : ramp s = s := by
  simp [ramp, hh]

/-- The transition the present pin level names is the one the edge service makes (R145). -/
theorem exec_transition_of_pin (s : State) :
    exec (if s.pin then .rise else .fall) s = .next (edgeSvc s) := by
  obtain ⟨hp, h⟩ | ⟨hp, h⟩ := edgeSvc_cases s
  · rw [if_pos hp, exec_rise, h]
  · rw [if_neg (by simp [hp]), exec_fall, h]

/-! ## What the steps' bodies leave of the flags -/

theorem ramp_pend (s : State) : (ramp s).pend = s.pend := by
  rw [ramp_frame]

theorem edgeSvc_pend (s : State) : (edgeSvc s).pend = s.pend := by
  rw [edgeSvc_frame]

/-! ## S3 and S4 by their flag -/

/-- S3 with a Timer 1 tick pending: RAMP, whether or not it increments, and the flag cleared (R153). -/
theorem incStep_of_pending {s : State} (ht : s.pend.t1 = true) :
    incStep s = { ramp s with pend := { s.pend with t1 := false } } := by
  obtain ⟨-, h⟩ | ⟨hf, -⟩ := incStep_cases s
  · rw [h, incBody_eq, ramp_pend]
  · simp [hf] at ht

theorem incStep_of_not_pending {s : State} (ht : s.pend.t1 = false) : incStep s = s := by
  obtain ⟨hp, -⟩ | ⟨-, h⟩ := incStep_cases s
  · simp [hp] at ht
  · exact h

/-- S4 with an edge pending: the edge service, and the flag cleared (R154). -/
theorem edgeStep_of_pending {s : State} (he : s.pend.edge = true) :
    edgeStep s = { edgeSvc s with pend := { s.pend with edge := false } } := by
  obtain ⟨-, h⟩ | ⟨hf, -⟩ := edgeStep_cases s
  · rw [h, edgeBody_eq, edgeSvc_pend]
  · simp [hf] at he

theorem edgeStep_of_not_pending {s : State} (he : s.pend.edge = false) : edgeStep s = s := by
  obtain ⟨hp, -⟩ | ⟨-, h⟩ := edgeStep_cases s
  · simp [hp] at he
  · exact h

/-! ## The obligations -/

/-- Settles O39: by the flag, and where it is pending by `HOLD`, which decides what RAMP does. -/
theorem incStepClearsTheFlagRegardless : Obligations.IncStepClearsTheFlagRegardless := by
  intro s
  refine ⟨fun ht hh => ⟨increment s, exec_increment s, ?_⟩, fun ht hh => ?_, fun ht => ?_⟩
  · rw [exec_incStep, incStep_of_pending ht, ramp_of_hold hh]
  · rw [exec_incStep, incStep_of_pending ht, ramp_of_not_hold hh]
  · rw [exec_incStep, incStep_of_not_pending ht]

/-- Settles O40: by the flag; where it is pending, the edge service is the transition of the pin level. -/
theorem edgeStepServicesTheEdge : Obligations.EdgeStepServicesTheEdge := by
  intro s
  refine ⟨fun he => ⟨edgeSvc s, exec_edgeSvc s, exec_transition_of_pin s, ?_⟩, fun he => ?_⟩
  · rw [exec_edgeStep, edgeStep_of_pending he]
  · rw [exec_edgeStep, edgeStep_of_not_pending he]

end Sys2Proof.Proofs
end

section
/-! SUPPORT. The decoder by format: what each operand form accepts, that a decoded command is the encoding
of what was read, and that the decoder accepts exactly the well-formed commands (R81 to R87). -/

namespace Sys2Proof.Proofs

open Sys2Proof Sys2Proof.Machine

/-! ## Operand forms -/

theorem bare_ok_iff {c : Command} {i j : Instr} :
    bare c j = .ok i ↔ c.a = 0 ∧ c.b = 0 ∧ j = i := by
  unfold bare
  split <;> simp_all

theorem byte_eq_of_toNat {x : Byte} {n : Nat} (h : x.toNat = n) : x = BitVec.ofNat 8 n := by
  rw [← h, BitVec.ofNat_toNat, BitVec.setWidth_eq]

theorem channelOf_eq_some_iff {x : Byte} {ch : Channel} :
    channelOf x = some ch ↔ x = channelByte ch := by
  constructor
  · intro h
    unfold channelOf at h
    split at h
    next h0 => cases h; exact byte_eq_of_toNat h0
    next h1 => cases h; exact byte_eq_of_toNat h1
    next => cases h
  · rintro rfl
    cases ch <;> rfl

theorem levelOf_eq_some_iff {x : Byte} {o : Bool} : levelOf x = some o ↔ x = levelByte o := by
  constructor
  · intro h
    unfold levelOf at h
    split at h
    next h0 => cases h; exact byte_eq_of_toNat h0
    next h1 => cases h; exact byte_eq_of_toNat h1
    next => cases h
  · rintro rfl
    cases o <;> rfl

theorem exists_channelByte_iff {x : Byte} : (∃ ch, x = channelByte ch) ↔ x.toNat < 2 := by
  constructor
  · rintro ⟨_ | _, rfl⟩ <;> decide
  · intro h
    obtain h0 | h1 : x.toNat = 0 ∨ x.toNat = 1 := by omega
    · exact ⟨.ch0, byte_eq_of_toNat h0⟩
    · exact ⟨.ch1, byte_eq_of_toNat h1⟩

theorem exists_levelByte_iff {x : Byte} : (∃ o, x = levelByte o) ↔ x.toNat < 2 := by
  constructor
  · rintro ⟨_ | _, rfl⟩ <;> decide
  · intro h
    obtain h0 | h1 : x.toNat = 0 ∨ x.toNat = 1 := by omega
    · exact ⟨false, byte_eq_of_toNat h0⟩
    · exact ⟨true, byte_eq_of_toNat h1⟩

theorem withChannel_ok_iff {c : Command} {f : Channel → Instr} {i : Instr} :
    withChannel c f = .ok i ↔ ∃ ch, c.a = channelByte ch ∧ c.b = 0 ∧ f ch = i := by
  simp only [← channelOf_eq_some_iff, withChannel]
  cases channelOf c.a with
  | none => simp
  | some ch => by_cases hb : c.b = 0 <;> simp only [hb] <;> simp

theorem withTarget_ok_iff {c : Command} {f : Channel → Byte → Instr} {i : Instr} :
    withTarget c f = .ok i ↔ ∃ ch, c.a = channelByte ch ∧ f ch c.b = i := by
  simp only [← channelOf_eq_some_iff, withTarget]
  cases channelOf c.a <;> simp

theorem withLevels_ok_iff {c : Command} {f : Bool → Bool → Instr} {i : Instr} :
    withLevels c f = .ok i ↔ ∃ o1 o0, c.a = levelByte o1 ∧ c.b = levelByte o0 ∧ f o1 o0 = i := by
  simp only [← levelOf_eq_some_iff, withLevels]
  cases levelOf c.a <;> cases levelOf c.b <;> simp

theorem bare_accepts {c : Command} {j : Instr} : (∃ i, bare c j = .ok i) ↔ c.a = 0 ∧ c.b = 0 := by
  simp [bare_ok_iff]

theorem withChannel_accepts {c : Command} {f : Channel → Instr} :
    (∃ i, withChannel c f = .ok i) ↔ c.a.toNat < 2 ∧ c.b = 0 := by
  simp only [withChannel_ok_iff, ← exists_channelByte_iff]
  exact ⟨fun ⟨_, ch, ha, hb, _⟩ => ⟨⟨ch, ha⟩, hb⟩, fun ⟨⟨ch, ha⟩, hb⟩ => ⟨_, ch, ha, hb, rfl⟩⟩

theorem withTarget_accepts {c : Command} {f : Channel → Byte → Instr} :
    (∃ i, withTarget c f = .ok i) ↔ c.a.toNat < 2 := by
  simp only [withTarget_ok_iff, ← exists_channelByte_iff]
  exact ⟨fun ⟨_, ch, ha, _⟩ => ⟨ch, ha⟩, fun ⟨ch, ha⟩ => ⟨_, ch, ha, rfl⟩⟩

theorem withLevels_accepts {c : Command} {f : Bool → Bool → Instr} :
    (∃ i, withLevels c f = .ok i) ↔ c.a.toNat < 2 ∧ c.b.toNat < 2 := by
  simp only [withLevels_ok_iff, ← exists_levelByte_iff]
  exact ⟨fun ⟨_, o1, o0, ha, hb, _⟩ => ⟨⟨o1, ha⟩, ⟨o0, hb⟩⟩,
    fun ⟨⟨o1, ha⟩, ⟨o0, hb⟩⟩ => ⟨_, o1, o0, ha, hb, rfl⟩⟩

/-! ## The three formats accept their well-formed commands -/

theorem decodeSlot_accepts (c : Command) :
    (∃ i, decodeSlot c = .ok i) ↔ slotLabelFits c.label.toNat = true ∧ c.a = 0 ∧ c.b = 0 := by
  unfold decodeSlot
  split
  case h_9 => simp_all [slotLabelFits]
  all_goals simp_all [slotLabelFits, bare_accepts]

theorem decodeEvw_accepts (c : Command) :
    (∃ i, decodeEvw c = .ok i) ↔ c.label.toNat < 16 ∧ c.a = 0 ∧ c.b = 0 := by
  unfold decodeEvw
  split
  case h_17 =>
    simp only [imp_false] at *
    have hlt : ¬ c.label.toNat < 16 := by omega
    simp [hlt]
  all_goals simp_all [bare_accepts]

theorem decodeOpn_accepts (c : Command) :
    (∃ i, decodeOpn c = .ok i) ↔ c.label.toNat < 23 ∧ operandsFit c.label.toNat c.a c.b = true := by
  unfold decodeOpn
  split
  case h_24 =>
    simp only [imp_false] at *
    have hlt : ¬ c.label.toNat < 23 := by omega
    simp [hlt]
  all_goals
    simp_all [operandsFit, bare_accepts, withChannel_accepts, withTarget_accepts, withLevels_accepts]

/-- Settles O3: format by format, the labels that the decoder takes and the operand bytes its operand
forms take are those of `Command.wellFormed`. -/
theorem decoderAcceptsExactlyWellFormed : Obligations.DecoderAcceptsExactlyWellFormed := by
  intro c
  unfold decode Command.wellFormed
  cases c.fmt with
  | slot => simp [decodeSlot_accepts, and_assoc]
  | evw => simp [decodeEvw_accepts, and_assoc]
  | opn => simp [decodeOpn_accepts]

/-! ## A decoded command is an encoding -/

theorem command_eq {c : Command} {f : Format} {n : Nat} {a b : Byte} (hf : c.fmt = f)
    (hl : c.label.toNat = n) (ha : c.a = a) (hb : c.b = b) : c = ⟨f, BitVec.ofNat 8 n, a, b⟩ := by
  cases c
  simp only [Command.mk.injEq]
  exact ⟨hf, byte_eq_of_toNat hl, ha, hb⟩

/-- A command read as `j` without operands is the encoding of `j` where that has its format and label. -/
theorem eq_encode_of_bare {c : Command} {f : Format} {n : Nat} {i j : Instr} (hf : c.fmt = f)
    (hl : c.label.toNat = n) (h : bare c j = .ok i) (he : encode j = ⟨f, BitVec.ofNat 8 n, 0, 0⟩) :
    c = encode i := by
  obtain ⟨ha, hb, rfl⟩ := bare_ok_iff.1 h
  rw [he]
  exact command_eq hf hl ha hb

theorem eq_encode_of_decodeEvw {c : Command} {i : Instr} (hf : c.fmt = .evw)
    (h : decodeEvw c = .ok i) : c = encode i := by
  unfold decodeEvw at h
  split at h
  case h_17 => cases h
  all_goals exact eq_encode_of_bare hf ‹_› h rfl

theorem eq_encode_of_decodeOpn {c : Command} {i : Instr} (hf : c.fmt = .opn)
    (h : decodeOpn c = .ok i) : c = encode i := by
  unfold decodeOpn at h
  split at h
  case h_24 => cases h
  case h_3 hl | h_9 hl =>
    obtain ⟨ch, ha, hb, rfl⟩ := withChannel_ok_iff.1 h
    exact command_eq hf hl ha hb
  case h_4 hl =>
    obtain ⟨ch, ha, rfl⟩ := withTarget_ok_iff.1 h
    exact command_eq hf hl ha rfl
  case h_5 hl =>
    obtain ⟨o1, o0, ha, hb, rfl⟩ := withLevels_ok_iff.1 h
    exact command_eq hf hl ha hb
  all_goals exact eq_encode_of_bare hf ‹_› h rfl

/-- A slot label 8, 9 or 10 has `E` = 0 and `L` = 1, and without its `L` bit it is the canonical label. -/
theorem eq_encode_of_bare_slotL {c : Command} {n : Nat} {i j : Instr} (hf : c.fmt = .slot)
    (hl : c.label.toNat = n + 8) (hn : n < 4) (h : bare c j = .ok i)
    (he : encode j = ⟨.slot, BitVec.ofNat 8 n, 0, 0⟩) :
    c.fmt = .slot ∧ c.label.getLsbD 2 = false ∧ c.label.getLsbD 3 = true ∧
      { c with label := c.label - 8 } = encode i := by
  have hbits : c.label.getLsbD 2 = false ∧ c.label.getLsbD 3 = true := by
    rw [byte_eq_of_toNat hl]
    interval_cases n <;> decide
  have hcanon : (c.label - 8).toNat = n := by
    rw [byte_eq_of_toNat hl]
    interval_cases n <;> rfl
  exact ⟨hf, hbits.1, hbits.2,
    eq_encode_of_bare (c := { c with label := c.label - 8 }) hf hcanon (by simpa [bare] using h) he⟩

theorem eq_encode_of_decodeSlot {c : Command} {i : Instr} (hf : c.fmt = .slot)
    (h : decodeSlot c = .ok i) :
    c = encode i ∨
    (c.fmt = .slot ∧ c.label.getLsbD 2 = false ∧ c.label.getLsbD 3 = true ∧
      { c with label := c.label - 8 } = encode i) := by
  unfold decodeSlot at h
  split at h
  case h_9 => cases h
  case h_2 hl => exact .inr (eq_encode_of_bare_slotL (n := 0) hf hl (by decide) h rfl)
  case h_4 hl => exact .inr (eq_encode_of_bare_slotL (n := 1) hf hl (by decide) h rfl)
  case h_6 hl => exact .inr (eq_encode_of_bare_slotL (n := 2) hf hl (by decide) h rfl)
  all_goals exact .inl (eq_encode_of_bare hf ‹_› h rfl)

/-- Settles O2: by format; only a slot label has a second spelling, the one with the ignored `L` bit. -/
theorem decodedCommandIsTheEncoding : Obligations.DecodedCommandIsTheEncoding := by
  intro c i h
  unfold decode at h
  cases hf : c.fmt with
  | slot =>
    rw [hf] at h
    simpa only [hf] using eq_encode_of_decodeSlot hf h
  | evw =>
    rw [hf] at h
    exact .inl (eq_encode_of_decodeEvw hf h)
  | opn =>
    rw [hf] at h
    exact .inl (eq_encode_of_decodeOpn hf h)

/-- Settles O1: constructor by constructor, the encoding round trip of that instruction. -/
theorem decodeOfEncodeIsIdentity : Obligations.DecodeOfEncodeIsIdentity
  | .slotP => Laws.EncodingRoundTrip.slotP
  | .slotI => Laws.EncodingRoundTrip.slotI
  | .slotRise => Laws.EncodingRoundTrip.slotRise
  | .slotFall => Laws.EncodingRoundTrip.slotFall
  | .slotNone => Laws.EncodingRoundTrip.slotNone
  | .evNone => Laws.EncodingRoundTrip.evNone
  | .evP => Laws.EncodingRoundTrip.evP
  | .evI => Laws.EncodingRoundTrip.evI
  | .evPI => Laws.EncodingRoundTrip.evPI
  | .evFall => Laws.EncodingRoundTrip.evFall
  | .evPFall => Laws.EncodingRoundTrip.evPFall
  | .evIFall => Laws.EncodingRoundTrip.evIFall
  | .evPIFall => Laws.EncodingRoundTrip.evPIFall
  | .evNoneL => Laws.EncodingRoundTrip.evNoneL
  | .evPL => Laws.EncodingRoundTrip.evPL
  | .evIL => Laws.EncodingRoundTrip.evIL
  | .evPIL => Laws.EncodingRoundTrip.evPIL
  | .evRise => Laws.EncodingRoundTrip.evRise
  | .evPRise => Laws.EncodingRoundTrip.evPRise
  | .evIRise => Laws.EncodingRoundTrip.evIRise
  | .evPIRise => Laws.EncodingRoundTrip.evPIRise
  | .seed => Laws.EncodingRoundTrip.seed
  | .nextByte => Laws.EncodingRoundTrip.nextByte
  | .tick ch => Laws.EncodingRoundTrip.tick ch
  | .setTarget ch v => Laws.EncodingRoundTrip.setTarget ch v
  | .commit o1 o0 => Laws.EncodingRoundTrip.commit o1 o0
  | .edges => Laws.EncodingRoundTrip.edges
  | .increment => Laws.EncodingRoundTrip.increment
  | .decrement => Laws.EncodingRoundTrip.decrement
  | .draw ch => Laws.EncodingRoundTrip.draw ch
  | .onFrameTick => Laws.EncodingRoundTrip.onFrameTick
  | .rise => Laws.EncodingRoundTrip.rise
  | .fall => Laws.EncodingRoundTrip.fall
  | .t1restart => Laws.EncodingRoundTrip.t1restart
  | .ramp => Laws.EncodingRoundTrip.ramp
  | .edgeSvc => Laws.EncodingRoundTrip.edgeSvc
  | .pwmStep => Laws.EncodingRoundTrip.pwmStep
  | .frameStep => Laws.EncodingRoundTrip.frameStep
  | .incStep => Laws.EncodingRoundTrip.incStep
  | .edgeStep => Laws.EncodingRoundTrip.edgeStep
  | .dispatch => Laws.EncodingRoundTrip.dispatch
  | .idle => Laws.EncodingRoundTrip.idle
  | .reset => Laws.EncodingRoundTrip.reset
  | .start => Laws.EncodingRoundTrip.start

/-- Settles O4: the ten words are evaluated. -/
theorem tableWordsDecode : Obligations.TableWordsDecode := by
  unfold Obligations.TableWordsDecode
  decide

/-- An operation number from 23 to 31 decodes to nothing, whatever follows it (R87). -/
theorem decode_unassigned {n : Byte} (a b : Byte) (h23 : 23 ≤ n.toNat) (h31 : n.toNat ≤ 31) :
    decode ⟨.opn, n, a, b⟩ = .error .unassigned := by
  simp only [decode, decodeOpn]
  split
  case h_24 => simp only [show n.toNat < 32 by omega, if_true]
  all_goals omega

end Sys2Proof.Proofs
end

section
/-! SUPPORT. The instructions executed: each of them completes, the 16 event words are one family indexed
by the word, and a property of every instruction is proved once for that family and once for each slot and
operation. -/

namespace Sys2Proof.Proofs

open Sys2Proof Sys2Proof.Machine Sys2Proof.Safety

/-! ## The state after an instruction -/

/-- The state an instruction leaves; `exec_eq_after` ties it to `exec`. -/
def after (i : Instr) (s : State) : State :=
  match exec i s with
  | .next t => t
  | .fault _ => s
  | .refused _ => s

/-- Every instruction completes in every state (R170). -/
theorem exec_eq_after (i : Instr) (s : State) : exec i s = .next (after i s) := by
  cases i <;> rfl

theorem exec_eq_next_iff {i : Instr} {s t : State} : exec i s = .next t ↔ after i s = t := by
  rw [exec_eq_after, Host.Outcome.next.injEq]

/-! ## The event words as one family -/

/-- The instruction of an event word (R82, R83). -/
def wordInstr (w : EventWord) : Instr :=
  match w.toNat with
  | 0 => .evNone
  | 1 => .evP
  | 2 => .evI
  | 3 => .evPI
  | 4 => .evFall
  | 5 => .evPFall
  | 6 => .evIFall
  | 7 => .evPIFall
  | 8 => .evNoneL
  | 9 => .evPL
  | 10 => .evIL
  | 11 => .evPIL
  | 12 => .evRise
  | 13 => .evPRise
  | 14 => .evIRise
  | _ => .evPIRise

theorem decode_word (w : EventWord) : decode ⟨.evw, w.setWidth 8, 0, 0⟩ = .ok (wordInstr w) := by
  revert w
  decide

/-- Every event word is one invocation with that word (R161). -/
theorem exec_word (w : EventWord) (s : State) : exec (wordInstr w) s = .next (invoke w s) := by
  obtain ⟨⟨n, hn⟩⟩ := w
  interval_cases n <;> rfl

theorem after_word (w : EventWord) (s : State) : after (wordInstr w) s = invoke w s :=
  exec_eq_next_iff.1 (exec_word w s)

/-- A case analysis of the instructions that takes the event words as one case. -/
theorem instr_cases_by_word {motive : Instr → Prop} (word : ∀ w, motive (wordInstr w))
    (slotP : motive .slotP) (slotI : motive .slotI) (slotRise : motive .slotRise)
    (slotFall : motive .slotFall) (slotNone : motive .slotNone)
    (seed : motive .seed) (nextByte : motive .nextByte) (tick : ∀ ch, motive (.tick ch))
    (setTarget : ∀ ch v, motive (.setTarget ch v)) (commit : ∀ o1 o0, motive (.commit o1 o0))
    (edges : motive .edges) (increment : motive .increment) (decrement : motive .decrement)
    (draw : ∀ ch, motive (.draw ch)) (onFrameTick : motive .onFrameTick) (rise : motive .rise)
    (fall : motive .fall) (t1restart : motive .t1restart) (ramp : motive .ramp)
    (edgeSvc : motive .edgeSvc) (pwmStep : motive .pwmStep) (frameStep : motive .frameStep)
    (incStep : motive .incStep) (edgeStep : motive .edgeStep) (dispatch : motive .dispatch)
    (idle : motive .idle) (reset : motive .reset) (start : motive .start) (i : Instr) : motive i := by
  cases i with
  | evNone => exact word 0
  | evP => exact word 1
  | evI => exact word 2
  | evPI => exact word 3
  | evFall => exact word 4
  | evPFall => exact word 5
  | evIFall => exact word 6
  | evPIFall => exact word 7
  | evNoneL => exact word 8
  | evPL => exact word 9
  | evIL => exact word 10
  | evPIL => exact word 11
  | evRise => exact word 12
  | evPRise => exact word 13
  | evIRise => exact word 14
  | evPIRise => exact word 15
  | tick ch => exact tick ch
  | setTarget ch v => exact setTarget ch v
  | commit o1 o0 => exact commit o1 o0
  | draw ch => exact draw ch
  | _ => assumption

/-- An event-word command that is well formed decodes to the instruction of a word (R87). -/
theorem decode_of_wellFormed_word {c : Command} (hf : c.fmt = .evw) (hwf : c.wellFormed = true) :
    ∃ w, decode c = .ok (wordInstr w) := by
  obtain ⟨f, l, a, b⟩ := c
  obtain rfl : f = .evw := hf
  simp only [Command.wellFormed, Bool.and_eq_true, decide_eq_true_eq, beq_iff_eq] at hwf
  obtain ⟨⟨hl, rfl⟩, rfl⟩ := hwf
  refine ⟨l.setWidth 4, ?_⟩
  have hlabel : (l.setWidth 4).setWidth 8 = l := by
    apply BitVec.eq_of_toNat_eq
    simp only [BitVec.toNat_setWidth]
    omega
  simpa only [hlabel] using decode_word (l.setWidth 4)

/-! ## Repeated instructions -/

theorem execTimes_eq_iterate (i : Instr) (n : Nat) (s : State) :
    execTimes i n s = .next ((after i)^[n] s) := by
  induction n generalizing s with
  | zero => rfl
  | succ n ih => rw [execTimes_succ i n s _ (exec_eq_after i s), ih, Function.iterate_succ_apply]

/-! ## A step by the head of the agenda -/

theorem step_nil {s : State} (h : s.agenda = []) : step s = exec (autonomous s) s := by
  simp only [step, fetch, h]

theorem step_env {s : State} {e : EnvEvent} {rest : List Turn} (h : s.agenda = .env e :: rest) :
    step s = .next (environment e (s.setAgenda rest)) := by
  simp only [step, fetch, h]

theorem step_dispatcher {s : State} {rest : List Turn} (h : s.agenda = .dispatcher :: rest) :
    step s = exec (autonomous s) (s.setAgenda rest) := by
  simp only [step, fetch, h]

theorem step_command {s : State} {c : Command} {rest : List Turn} {i : Instr}
    (h : s.agenda = .command c :: rest) (hc : decode c = .ok i) :
    step s = exec i (s.setAgenda rest) := by
  simp only [step, fetch, h, hc]

theorem step_rejected {s : State} {c : Command} {rest : List Turn} {why : Reject}
    (h : s.agenda = .command c :: rest) (hc : decode c = .error why) :
    step s = .refused (.undecodable why) := by
  simp only [step, fetch, h, hc]

/-! ## The obligations on event words as commands -/

/-- Words whose flags agree and whose pin level is not looked at present the same (R87). -/
theorem present_congr {w v : EventWord} (hp : wordP w = wordP v) (hi : wordI w = wordI v)
    (hw : wordE w = false) (hv : wordE v = false) (s : State) : present w s = present v s := by
  simp only [present_eq, hp, hi, hw, hv, Bool.false_eq_true, if_false]

theorem invoke_congr {w v : EventWord} (hp : wordP w = wordP v) (hi : wordI w = wordI v)
    (hw : wordE w = false) (hv : wordE v = false) (s : State) : invoke w s = invoke v s := by
  simp only [invoke, present_congr hp hi hw hv]

/-- Settles O6: every word has its instruction, and the words 8 to 11 present what 0 to 3 present. -/
theorem eventWordsAreLegalAndLIsIgnoredWithoutE :
    Obligations.EventWordsAreLegalAndLIsIgnoredWithoutE := by
  refine ⟨fun w => ⟨wordInstr w, decode_word w⟩, fun s => ?_⟩
  have hsame (n : EventWord) (hn : n.toNat < 4) :
      exec (wordInstr (n + 8)) s = exec (wordInstr n) s := by
    have hbits : ∀ m : EventWord, m.toNat < 4 →
        wordP (m + 8) = wordP m ∧ wordI (m + 8) = wordI m ∧ wordE (m + 8) = false ∧ wordE m = false := by
      decide
    obtain ⟨hp, hi, he8, he⟩ := hbits n hn
    rw [exec_word, exec_word, invoke_congr hp hi he8 he]
  exact ⟨hsame 0 (by decide), hsame 1 (by decide), hsame 2 (by decide), hsame 3 (by decide)⟩

end Sys2Proof.Proofs
end

section
/-! SUPPORT. An invocation taken apart into what it does to the registers and what becomes of `IS`, `IF`
and `PIN`, which the step bodies do not look at but for the level S4 reads (R150 to R154). -/

namespace Sys2Proof.Proofs

open Sys2Proof Sys2Proof.Machine Sys2Proof.Safety

/-! ## The control part of the state -/

/-- `s` with its in-service bit, its pending flags and its pin level replaced. -/
def withControl (b : Bool) (p : Pending) (l : Bool) (s : State) : State :=
  { s with inService := b, pend := p, pin := l }

theorem withControl_self (s : State) : withControl s.inService s.pend s.pin s = s := rfl

@[simp] theorem withControl_bright (b : Bool) (p : Pending) (l : Bool) (s : State) :
    (withControl b p l s).bright = s.bright := rfl

@[simp] theorem withControl_hold (b : Bool) (p : Pending) (l : Bool) (s : State) :
    (withControl b p l s).hold = s.hold := rfl

@[simp] theorem withControl_fc (b : Bool) (p : Pending) (l : Bool) (s : State) :
    (withControl b p l s).fc = s.fc := rfl

theorem enter_withControl (b : Bool) (p : Pending) (l : Bool) (s : State) :
    enter (withControl b p l s) = withControl true p l s := rfl

theorem leave_withControl (b : Bool) (p : Pending) (l : Bool) (s : State) :
    leave (withControl b p l s) = withControl false p l s := rfl

theorem present_eq_withControl (w : EventWord) (s : State) :
    present w s =
      withControl s.inService ⟨s.pend.t0 || wordP w, s.pend.t1 || wordI w, s.pend.edge || wordE w⟩
        (if wordE w then wordL w else s.pin) s := rfl

/-! ## The operations commute with the control part -/

theorem increment_withControl (b : Bool) (p : Pending) (l : Bool) (s : State) :
    increment (withControl b p l s) = withControl b p l (increment s) := by
  rw [increment, increment, withControl_bright]
  split <;> rfl

theorem decrement_withControl (b : Bool) (p : Pending) (l : Bool) (s : State) :
    decrement (withControl b p l s) = withControl b p l (decrement s) := by
  rw [decrement, decrement, withControl_bright]
  split <;> rfl

theorem onFrameTick_withControl (b : Bool) (p : Pending) (l : Bool) (s : State) :
    onFrameTick (withControl b p l s) = withControl b p l (onFrameTick s) := by
  have hredraw (ch : Channel) (u : State) :
      redraw ch (withControl b p l u) = withControl b p l (redraw ch u) := rfl
  simp only [onFrameTick, hredraw, withControl_hold]
  split
  · rfl
  · exact decrement_withControl b p l _

theorem frameStep_withControl (b : Bool) (p : Pending) (l : Bool) (s : State) :
    frameStep (withControl b p l s) = withControl b p l (frameStep s) := by
  simp only [frameStep, withControl_fc, onFrameTick_withControl]
  split <;> rfl

theorem ramp_withControl (b : Bool) (p : Pending) (l : Bool) (s : State) :
    ramp (withControl b p l s) = withControl b p l (ramp s) := by
  simp only [ramp, withControl_hold, increment_withControl]
  split <;> rfl

theorem rise_withControl (b : Bool) (p : Pending) (l : Bool) (s : State) :
    rise (withControl b p l s) = withControl b p l (rise s) := by
  have hhold : (withControl b p l s).setHold true = withControl b p l (s.setHold true) := rfl
  simp only [rise, hhold, increment_withControl]
  rfl

/-! ## The step bodies -/

/-- What the edge service does at pin level `l`: RISE or FALL (R145). -/
def edgeTo (l : Bool) (s : State) : State := if l then rise s else fall s

theorem edgeSvc_eq_edgeTo (s : State) : edgeSvc s = edgeTo s.pin s := rfl

@[simp] theorem edgeTo_true (s : State) : edgeTo true s = rise s := rfl

@[simp] theorem edgeTo_false (s : State) : edgeTo false s = fall s := rfl

theorem edgeTo_withControl (b : Bool) (p : Pending) (l l' : Bool) (s : State) :
    edgeTo l' (withControl b p l s) = withControl b p l (edgeTo l' s) := by
  cases l' with
  | false => rfl
  | true => exact rise_withControl b p l s

theorem pwmBody_withControl (b : Bool) (p : Pending) (l : Bool) (s : State) :
    pwmBody (withControl b p l s) = withControl b ⟨false, p.t1, p.edge⟩ l (pwmBody s) := by
  simp only [pwmBody_eq, withControl]

theorem incBody_withControl (b : Bool) (p : Pending) (l : Bool) (s : State) :
    incBody (withControl b p l s) = withControl b ⟨p.t0, false, p.edge⟩ l (ramp s) := by
  simp only [incBody_eq, ramp_withControl]
  rfl

theorem edgeBody_withControl (b : Bool) (p : Pending) (l : Bool) (s : State) :
    edgeBody (withControl b p l s) = withControl b ⟨p.t0, p.t1, false⟩ l (edgeTo l s) := by
  have hpin : (withControl b p l s).pin = l := rfl
  simp only [edgeBody_eq, edgeSvc_eq_edgeTo, hpin, edgeTo_withControl]
  rfl

/-! ## The four steps -/

theorem pwmStep_withControl (b : Bool) (p : Pending) (l : Bool) (s : State) :
    pwmStep (withControl b p l s) =
      withControl b ⟨false, p.t1, p.edge⟩ l (if p.t0 then pwmBody s else s) := by
  obtain ⟨t0, t1, edge⟩ := p
  cases t0 with
  | false => rfl
  | true => exact pwmBody_withControl b ⟨true, t1, edge⟩ l s

theorem incStep_withControl (b : Bool) (p : Pending) (l : Bool) (s : State) :
    incStep (withControl b p l s) =
      withControl b ⟨p.t0, false, p.edge⟩ l (if p.t1 then ramp s else s) := by
  obtain ⟨t0, t1, edge⟩ := p
  cases t1 with
  | false => rfl
  | true => exact incBody_withControl b ⟨t0, true, edge⟩ l s

theorem edgeStep_withControl (b : Bool) (p : Pending) (l : Bool) (s : State) :
    edgeStep (withControl b p l s) =
      withControl b ⟨p.t0, p.t1, false⟩ l (if p.edge then edgeTo l s else s) := by
  obtain ⟨t0, t1, edge⟩ := p
  cases edge with
  | false => rfl
  | true => exact edgeBody_withControl b ⟨t0, t1, true⟩ l s

/-! ## The whole invocation -/

/-- What an invocation that finds the flags `p` and the pin level `l` does to the registers: the bodies of
S1, S3 and S4 where their flag is set, and S2 (R150 to R154). -/
def serviced (p : Pending) (l : Bool) (s : State) : State :=
  let s1 := frameStep (if p.t0 then pwmBody s else s)
  let s2 := if p.t1 then ramp s1 else s1
  if p.edge then edgeTo l s2 else s2

theorem dispatch_withControl (b : Bool) (p : Pending) (l : Bool) (s : State) :
    dispatch (withControl b p l s) = withControl false ⟨false, false, false⟩ l (serviced p l s) := by
  simp only [dispatch, enter_withControl, pwmStep_withControl, frameStep_withControl,
    incStep_withControl, edgeStep_withControl, leave_withControl, serviced]

/-- An invocation services the flags and the pin level it finds, and leaves no flag and `IS` = 0. -/
theorem dispatch_eq (s : State) :
    dispatch s = withControl false ⟨false, false, false⟩ s.pin (serviced s.pend s.pin s) :=
  dispatch_withControl s.inService s.pend s.pin s

/-- Where an invocation may run, an event word services its flags beside those already pending. -/
theorem invoke_eq {s : State} (hg : s.gie = true) (hs : s.inService = false) (w : EventWord) :
    invoke w s = dispatch (present w s) := by
  obtain ⟨-, -, h⟩ | ⟨hnot, -⟩ := invoke_cases w s
  · exact h
  · exact absurd ⟨hg, hs⟩ hnot

/-- With nothing pending before, an event word services exactly its own flags. -/
theorem invoke_eq_serviced {s : State} (hg : s.gie = true) (hs : s.inService = false)
    (hp : s.pend = ⟨false, false, false⟩) (w : EventWord) :
    invoke w s =
      withControl false ⟨false, false, false⟩ (if wordE w then wordL w else s.pin)
        (serviced ⟨wordP w, wordI w, wordE w⟩ (if wordE w then wordL w else s.pin) s) := by
  rw [invoke_eq hg hs, present_eq_withControl, dispatch_withControl, hp]
  simp only [Bool.false_or]

end Sys2Proof.Proofs
end

section
/-! SUPPORT. What an instruction can do, once: RESET apart, its effect is a sequence of the register writes
below. The invariants of every instruction are then proved write by write. -/

namespace Sys2Proof.Proofs

open Sys2Proof Sys2Proof.Machine Sys2Proof.Safety

/-! ## The register writes -/

/-- One write that an instruction other than RESET can make. The brightness is only ever written together
with its edges (R24), the port only by a commit (R33), `GIE` is only set (R31) and `IS` only left at 0
(R32). -/
inductive Write : State → State → Prop
  | brightness (s : State) (b : Byte) :
      Write s { s with bright := b, low := lowEdge b, high := highEdge b }
  | counter (s : State) (ch : Channel) (v : Byte) : Write s (s.setCnt ch v)
  | target (s : State) (ch : Channel) (v : Byte) : Write s (s.setTgt ch v)
  | port (s : State) (o1 o0 : Bool) : Write s (portWrite o1 o0 s)
  | restart (s : State) : Write s (t1Restart s)
  | frame (s : State) (v : FrameCount) : Write s (s.setFc v)
  | seed (s : State) (v : Seed) : Write s (s.setSeed v)
  | seeding (s : State) : Write s s.countSeeding
  | hold (s : State) (v : Bool) : Write s (s.setHold v)
  | ret (s : State) (v : Byte) : Write s (s.setRet v)
  | control (s : State) (p : Pending) (l : Bool) : Write s (withControl s.inService p l s)
  | serviced (s : State) (p : Pending) (l : Bool) : Write s (withControl false p l s)
  | enable (s : State) : Write s (s.setGie true)

/-- A sequence of writes. -/
abbrev Writes : State → State → Prop := Relation.ReflTransGen Write

theorem Write.writes {s t : State} (h : Write s t) : Writes s t := Relation.ReflTransGen.single h

/-- A predicate that every write keeps is kept by a sequence of them. -/
theorem Writes.keep {P : State → Prop} (hP : ∀ s t, Write s t → P s → P t) {s t : State}
    (h : Writes s t) (hs : P s) : P t := by
  induction h with
  | refl => exact hs
  | tail _ hw ih => exact hP _ _ hw ih

/-! ## The operations as writes -/

theorem writes_edges (s : State) : Writes s (edges s) := (Write.brightness s s.bright).writes

theorem writes_increment (s : State) : Writes s (increment s) := by
  obtain ⟨-, b, -, h⟩ | ⟨-, h⟩ := increment_cases s <;> rw [h]
  exact (Write.brightness s b).writes

theorem writes_decrement (s : State) : Writes s (decrement s) := by
  obtain ⟨-, b, -, h⟩ | ⟨-, h⟩ := decrement_cases s <;> rw [h]
  exact (Write.brightness s b).writes

theorem writes_tick (ch : Channel) (s : State) : Writes s (tick ch s).2 :=
  (Write.counter s ch (cntNext (s.cnt ch))).writes

theorem writes_redraw (ch : Channel) (s : State) : Writes s (redraw ch s) :=
  .tail (Write.seed s (lcgNext s.seed)).writes (.target _ ch (draw ch s))

theorem writes_onFrameTick (s : State) : Writes s (onFrameTick s) := by
  have hdrawn : Writes s (redraw .ch1 (redraw .ch0 s)) := (writes_redraw .ch0 s).trans (writes_redraw .ch1 _)
  simp only [onFrameTick]
  split
  · exact hdrawn
  · exact hdrawn.trans (writes_decrement _)

theorem writes_rise (s : State) : Writes s (rise s) :=
  .tail ((Write.hold s true).writes.trans (writes_increment _)) (.restart _)

theorem writes_fall (s : State) : Writes s (fall s) := (Write.hold s false).writes

theorem writes_ramp (s : State) : Writes s (ramp s) := by
  obtain ⟨-, h⟩ | ⟨-, h⟩ := ramp_cases s <;> rw [h]
  exact writes_increment s

theorem writes_edgeTo (l : Bool) (s : State) : Writes s (edgeTo l s) := by
  cases l with
  | false => exact writes_fall s
  | true => exact writes_rise s

theorem writes_edgeSvc (s : State) : Writes s (edgeSvc s) := writes_edgeTo s.pin s

theorem writes_pwmBody (s : State) : Writes s (pwmBody s) :=
  .tail (.tail (.tail ((writes_tick .ch0 s).trans (writes_tick .ch1 _)) (.port _ _ _)) (.frame _ _))
    (.control _ _ _)

theorem writes_pwmStep (s : State) : Writes s (pwmStep s) := by
  obtain ⟨-, h⟩ | ⟨-, h⟩ := pwmStep_cases s <;> rw [h]
  exact writes_pwmBody s

theorem writes_frameStep (s : State) : Writes s (frameStep s) := by
  obtain ⟨-, h⟩ | ⟨-, h⟩ := frameStep_cases s <;> rw [h]
  exact .tail (writes_onFrameTick s) (.frame _ 0)

theorem writes_incBody (s : State) : Writes s (incBody s) := .tail (writes_ramp s) (.control _ _ _)

theorem writes_incStep (s : State) : Writes s (incStep s) := by
  obtain ⟨-, h⟩ | ⟨-, h⟩ := incStep_cases s <;> rw [h]
  exact writes_incBody s

theorem writes_edgeBody (s : State) : Writes s (edgeBody s) := .tail (writes_edgeSvc s) (.control _ _ _)

theorem writes_edgeStep (s : State) : Writes s (edgeStep s) := by
  obtain ⟨-, h⟩ | ⟨-, h⟩ := edgeStep_cases s <;> rw [h]
  exact writes_edgeBody s

theorem writes_serviced (p : Pending) (l : Bool) (s : State) : Writes s (serviced p l s) := by
  have hpwm : Writes s (if p.t0 then pwmBody s else s) := by
    split
    · exact writes_pwmBody s
    · exact .refl
  have hramp (u : State) : Writes u (if p.t1 then ramp u else u) := by
    split
    · exact writes_ramp u
    · exact .refl
  have hedge (u : State) : Writes u (if p.edge then edgeTo l u else u) := by
    split
    · exact writes_edgeTo l u
    · exact .refl
  exact ((hpwm.trans (writes_frameStep _)).trans (hramp _)).trans (hedge _)

theorem writes_dispatch (s : State) : Writes s (dispatch s) := by
  rw [dispatch_eq]
  exact .tail (writes_serviced _ _ s) (.serviced _ _ _)

theorem writes_invoke (w : EventWord) (s : State) : Writes s (invoke w s) := by
  have hpresent : Writes s (present w s) := (Write.control s _ _).writes
  obtain ⟨-, -, h⟩ | ⟨-, h⟩ := invoke_cases w s <;> rw [h]
  · exact hpresent.trans (writes_dispatch _)
  · exact hpresent

/-- Every instruction other than RESET is a sequence of writes. -/
theorem writes_after {i : Instr} (hi : i ≠ .reset) (s : State) : Writes s (after i s) := by
  revert hi
  cases i using instr_cases_by_word with
  | word w => exact fun _ => after_word w s ▸ writes_invoke w s
  | slotP => exact fun _ => (writes_pwmBody s).trans (writes_frameStep _)
  | slotI => exact fun _ => writes_incBody s
  | slotRise => exact fun _ => (Write.control s s.pend true).writes.trans (writes_edgeBody _)
  | slotFall => exact fun _ => (Write.control s s.pend false).writes.trans (writes_edgeBody _)
  | slotNone => exact fun _ => .refl
  | seed => exact fun _ => .tail (Write.seed s _).writes (.seeding _)
  | nextByte => exact fun _ => .tail (Write.seed s _).writes (.ret _ _)
  | tick ch => exact fun _ => .tail (writes_tick ch s) (.ret _ _)
  | setTarget ch v => exact fun _ => (Write.target s ch v).writes
  | commit o1 o0 => exact fun _ => (Write.port s o1 o0).writes
  | edges => exact fun _ => writes_edges s
  | increment => exact fun _ => writes_increment s
  | decrement => exact fun _ => writes_decrement s
  | draw ch => exact fun _ => .tail (Write.seed s _).writes (.ret _ _)
  | onFrameTick => exact fun _ => writes_onFrameTick s
  | rise => exact fun _ => writes_rise s
  | fall => exact fun _ => writes_fall s
  | t1restart => exact fun _ => (Write.restart s).writes
  | ramp => exact fun _ => writes_ramp s
  | edgeSvc => exact fun _ => writes_edgeSvc s
  | pwmStep => exact fun _ => writes_pwmStep s
  | frameStep => exact fun _ => writes_frameStep s
  | incStep => exact fun _ => writes_incStep s
  | edgeStep => exact fun _ => writes_edgeStep s
  | dispatch => exact fun _ => writes_dispatch s
  | idle => exact fun _ => .refl
  | reset => exact fun h => absurd rfl h
  | start => exact fun _ => (Write.enable s).writes

/-- A predicate that every write and RESET keep is kept by every instruction. -/
theorem after_keeps {P : State → Prop} (hwrite : ∀ s t, Write s t → P s → P t)
    (hreset : ∀ s, P s → P (coldDefaults s)) (i : Instr) {s : State} (hs : P s) : P (after i s) := by
  by_cases hi : i = .reset
  · exact hi ▸ hreset s hs
  · exact (writes_after hi s).keep hwrite hs

/-- A predicate that every write, RESET and the environment keep, and that does not look at the agenda, is
kept by every step. -/
theorem step_keeps {P : State → Prop} (hwrite : ∀ s t, Write s t → P s → P t)
    (hreset : ∀ s, P s → P (coldDefaults s)) (hagenda : ∀ s l, P s → P (s.setAgenda l))
    {s t : State} (hs : P s) (h : step s = .next t) : P t := by
  obtain ⟨e, rest, -, rfl⟩ | ⟨c, rest, i, -, -, hi⟩ | ⟨rest, -, hi⟩ := step_cases h
  · have henv (u : State) : Write u (environment e u) := by
      cases e with
      | timer0 => exact .control u u.pend.raiseT0 u.pin
      | timer1 => exact .control u u.pend.raiseT1 u.pin
      | pinEdge => exact .control u u.pend.raiseEdge (!u.pin)
    exact hwrite _ _ (henv _) (hagenda s rest hs)
  · exact exec_eq_next_iff.1 hi ▸ after_keeps hwrite hreset i (hagenda s rest hs)
  · exact exec_eq_next_iff.1 hi ▸ after_keeps hwrite hreset _ (hagenda s rest hs)

/-! ## Edges, in service, interrupt enable -/

theorem edgesAgree_iff {s : State} :
    edgesAgree s = true ↔
      s.low.toNat = 25 * s.bright.toNat / 128 ∧ s.high.toNat = 113 * s.bright.toNat / 128 + 30 := by
  simp [edgesAgree]

theorem edgesAgree_of_computed (s : State) (b : Byte) :
    edgesAgree { s with bright := b, low := lowEdge b, high := highEdge b } = true :=
  edgesAgree_iff.2 ⟨lowEdge_toNat b, highEdge_toNat b⟩

theorem Write.edgesAgree {s t : State} (h : Write s t) (hs : edgesAgree s = true) :
    Safety.edgesAgree t = true := by
  cases h with
  | brightness b => exact edgesAgree_of_computed s b
  | _ => exact hs

theorem Write.inService {s t : State} (h : Write s t) (hs : s.inService = false) :
    t.inService = false := by
  cases h with
  | serviced p l => rfl
  | _ => exact hs

theorem Write.gie {s t : State} (h : Write s t) (hs : s.gie = true) : t.gie = true := by
  cases h with
  | enable => rfl
  | _ => exact hs

theorem settled_iff {s : State} : settled s = true ↔ edgesAgree s = true ∧ s.inService = false := by
  simp [settled]

/-- Settles O58: each write keeps the edges in agreement and does not set `IS`, and RESET writes the edges
of brightness 0. -/
theorem everyStepKeepsEdgesAndInServiceSettled : Obligations.EveryStepKeepsEdgesAndInServiceSettled := by
  intro s t hs h
  simp only [settled_iff] at hs ⊢
  refine step_keeps (P := fun u => edgesAgree u = true ∧ u.inService = false) ?_ ?_ ?_ hs h
  · exact fun u v hw hu => ⟨hw.edgesAgree hu.1, hw.inService hu.2⟩
  · exact fun u _ => ⟨edgesAgree_of_computed u 0, rfl⟩
  · exact fun u l hu => hu

/-- Settles O54: no write clears `GIE`, and neither does RESET. -/
theorem startEnablesInterruptsForEver : Obligations.StartEnablesInterruptsForEver := by
  refine ⟨fun s => rfl, fun s t hs h => ?_⟩
  exact step_keeps (P := fun u => u.gie = true) (fun u v hw hu => hw.gie hu) (fun u hu => hu)
    (fun u l hu => hu) hs h

end Sys2Proof.Proofs
end

section
/-! SUPPORT. The output port as a latch: it shows the last commit of the output events (R33, R112). -/

namespace Sys2Proof.Proofs

open Sys2Proof Sys2Proof.Machine Sys2Proof.Safety

theorem lastCommit_append_out (l : List OutEvent) (o1 o0 : Bool) :
    lastCommit (l ++ [.out o1 o0]) = some (o1, o0) := by
  simp [lastCommit]

theorem lastCommit_append_restart (l : List OutEvent) :
    lastCommit (l ++ [.t1restart]) = lastCommit l := by
  simp [lastCommit]

/-- The port value `out` shows the last commit of `l`, and the earlier value `v` where `l` has none. -/
def PortShows (l : List OutEvent) (v out : Port) : Prop :=
  (∃ o1 o0, lastCommit l = some (o1, o0) ∧ out = portOf o1 o0) ∨ (lastCommit l = none ∧ out = v)

theorem PortShows.nil (v : Port) : PortShows [] v v := .inr ⟨rfl, rfl⟩

theorem PortShows.append_out (l : List OutEvent) (v : Port) (o1 o0 : Bool) :
    PortShows (l ++ [.out o1 o0]) v (portOf o1 o0) :=
  .inl ⟨o1, o0, lastCommit_append_out l o1 o0, rfl⟩

theorem PortShows.append_restart {l : List OutEvent} {v out : Port} (h : PortShows l v out) :
    PortShows (l ++ [.t1restart]) v out := by
  rw [PortShows, lastCommit_append_restart]
  exact h

theorem portHolds_iff {s : State} : portHolds s = true ↔ PortShows s.trace 0 s.out := by
  unfold portHolds PortShows
  split
  next o1 o0 hl =>
    rw [beq_iff_eq, hl]
    constructor
    · exact fun h => .inl ⟨o1, o0, rfl, h⟩
    · rintro (⟨p1, p0, hp, h⟩ | ⟨hp, -⟩) <;> cases hp
      exact h
  next hl => simp [hl]

theorem level_ch0_of_out {s : State} {o1 o0 : Bool} (h : s.out = portOf o1 o0) : s.level .ch0 = o0 := by
  simp only [State.level, h, portOf_bit0]

theorem level_ch1_of_out {s : State} {o1 o0 : Bool} (h : s.out = portOf o1 o0) : s.level .ch1 = o1 := by
  simp only [State.level, h, portOf_bit1]

/-- A write records a commit and shows it, or records at most a restart and leaves the port. -/
theorem Write.port_cases {s t : State} (h : Write s t) :
    (∃ o1 o0, t.trace = s.trace ++ [.out o1 o0] ∧ t.out = portOf o1 o0) ∨
    (t.trace = s.trace ++ [.t1restart] ∧ t.out = s.out) ∨ (t.trace = s.trace ∧ t.out = s.out) := by
  cases h with
  | port o1 o0 => exact .inl ⟨o1, o0, rfl, rfl⟩
  | restart => exact .inr (.inl ⟨rfl, rfl⟩)
  | _ => exact .inr (.inr ⟨rfl, rfl⟩)

/-- The events recorded from `s` to `t`, and that the port follows them. -/
def LatchedSince (s t : State) : Prop := ∃ l, t.trace = s.trace ++ l ∧ PortShows l s.out t.out

theorem LatchedSince.refl (s : State) : LatchedSince s s :=
  ⟨[], (List.append_nil _).symm, .nil _⟩

theorem LatchedSince.write {s t u : State} (hw : Write t u) (h : LatchedSince s t) :
    LatchedSince s u := by
  obtain ⟨l, htrace, hport⟩ := h
  obtain ⟨o1, o0, hu, hout⟩ | ⟨hu, hout⟩ | ⟨hu, hout⟩ := hw.port_cases
  · exact ⟨l ++ [.out o1 o0], by rw [hu, htrace, List.append_assoc], hout ▸ .append_out l _ o1 o0⟩
  · exact ⟨l ++ [.t1restart], by rw [hu, htrace, List.append_assoc], hout ▸ hport.append_restart⟩
  · exact ⟨l, hu.trans htrace, hout ▸ hport⟩

theorem Write.portHolds {s t : State} (h : Write s t) (hs : portHolds s = true) :
    Safety.portHolds t = true := by
  rw [portHolds_iff] at hs ⊢
  obtain ⟨o1, o0, ht, hout⟩ | ⟨ht, hout⟩ | ⟨ht, hout⟩ := h.port_cases <;> rw [ht, hout]
  · exact .append_out _ _ _ _
  · exact hs.append_restart
  · exact hs

/-- Settles O21: an instruction is a sequence of writes, and the port follows their commits. -/
theorem onlyCommitsChangeThePort : Obligations.OnlyCommitsChangeThePort := by
  refine ⟨fun i s t hi h hne => ?_, fun e s rest => ?_⟩
  · rw [exec_eq_next_iff] at h
    have hlatched : LatchedSince s t :=
      h ▸ (writes_after hi s).keep (P := LatchedSince s) (fun _ _ hw => .write hw) (.refl s)
    obtain ⟨l, htrace, ⟨o1, o0, hl, hout⟩ | ⟨-, hout⟩⟩ := hlatched
    · exact ⟨l, o1, o0, htrace, hl, level_ch1_of_out hout, level_ch0_of_out hout⟩
    · exact absurd hout hne
  · exact ⟨_, rfl, by cases e <;> rfl, by cases e <;> rfl⟩

end Sys2Proof.Proofs
end

section
/-! SUPPORT. The invariants of hardware runs: what an invocation's step bodies keep of them, with the frame
counter one higher between S1 and S2 (R41, R151, R152). -/

namespace Sys2Proof.Proofs

open Sys2Proof Sys2Proof.Machine Sys2Proof.Safety

/-! ## Draws within the edges -/

/-- With edges that agree with the brightness a draw lies in `[LOW, HIGH)` (R133). -/
theorem drawValue_of_edgesAgree {s : State} (h : edgesAgree s = true) (r : Byte) :
    s.low.toNat ≤ (drawValue s.low s.high r).toNat ∧
      (drawValue s.low s.high r).toNat < s.high.toNat ∧ (drawValue s.low s.high r).toNat ≤ 254 := by
  obtain ⟨hlow, hhigh⟩ := edgesAgree_iff.1 h
  have hb := s.bright.isLt
  have hlt : s.low.toNat < s.high.toNat := by omega
  have hmod : r.toNat % (s.high.toNat - s.low.toNat) < s.high.toNat - s.low.toNat :=
    Nat.mod_lt _ (by omega)
  have hhi := s.high.isLt
  rw [drawValue_of_lt r hlt]
  omega

/-- Settles O29: the byte drawn is reduced by the gap, which is positive. -/
theorem drawLiesWithinTheEdges : Obligations.DrawLiesWithinTheEdges :=
  fun s _ h => ⟨_, rfl, drawValue_of_edgesAgree h (nextByte s)⟩

/-! ## The invariants -/

/-- R41 items 1 to 6 with `FC` at most `m`, `GIE` = 1 and the port latched; nothing of `IS`, `IF`, `PIN`
and the agenda. -/
structure Sound (m : Nat) (s : State) : Prop where
  edges : edgesAgree s = true
  counters : s.cnt0 = s.cnt1
  frame : s.fc.toNat ≤ m
  target0 : s.tgt0.toNat ≤ 254
  target1 : s.tgt1.toNat ≤ 254
  enabled : s.gie = true
  port : portHolds s = true
  outputs : outputsAgree s = true

theorem reachable_iff {s : State} :
    reachable s = true ↔ Sound 2929 s ∧ s.inService = false ∧ s.agenda.all hardwareTurn = true := by
  constructor
  · intro h
    simp only [reachable, settled, Bool.and_eq_true, Bool.not_eq_true', beq_iff_eq,
      decide_eq_true_eq] at h
    obtain ⟨⟨⟨⟨⟨⟨⟨⟨⟨hedges, his⟩, hcnt⟩, hfc⟩, ht0⟩, ht1⟩, hgie⟩, hport⟩, hout⟩, hagenda⟩ := h
    exact ⟨⟨hedges, hcnt, hfc, ht0, ht1, hgie, hport, hout⟩, his, hagenda⟩
  · rintro ⟨⟨hedges, hcnt, hfc, ht0, ht1, hgie, hport, hout⟩, his, hagenda⟩
    simp [reachable, settled, hedges, his, hcnt, hfc, ht0, ht1, hgie, hport, hout, hagenda]

theorem outputsAgree_iff {s : State} :
    outputsAgree s = true ↔ s.fc = 0 ∨
      (s.level .ch0 = decide (s.cnt0.toNat < s.tgt0.toNat) ∧
        s.level .ch1 = decide (s.cnt1.toNat < s.tgt1.toNat)) := by
  simp [outputsAgree]

theorem Sound.mono {m n : Nat} {s : State} (h : Sound m s) (hmn : m ≤ n) : Sound n s :=
  { h with frame := h.frame.trans hmn }

theorem Sound.withControl {m : Nat} {s : State} (h : Sound m s) (b : Bool) (p : Pending) (l : Bool) :
    Sound m (withControl b p l s) :=
  ⟨h.edges, h.counters, h.frame, h.target0, h.target1, h.enabled, h.port, h.outputs⟩

theorem Sound.setAgenda {m : Nat} {s : State} (h : Sound m s) (l : List Turn) :
    Sound m (s.setAgenda l) :=
  ⟨h.edges, h.counters, h.frame, h.target0, h.target1, h.enabled, h.port, h.outputs⟩

/-- A sequence of writes that leaves the counters, `FC`, the targets and the port alone keeps the
invariants. -/
theorem Sound.of_writes {m : Nat} {s t : State} (h : Sound m s) (hw : Writes s t)
    (hcnt : t.cnt0 = s.cnt0 ∧ t.cnt1 = s.cnt1) (hfc : t.fc = s.fc)
    (htgt : t.tgt0 = s.tgt0 ∧ t.tgt1 = s.tgt1) (hout : t.out = s.out) : Sound m t where
  edges := hw.keep (fun _ _ w => w.edgesAgree) h.edges
  counters := by rw [hcnt.1, hcnt.2, h.counters]
  frame := hfc ▸ h.frame
  target0 := htgt.1 ▸ h.target0
  target1 := htgt.2 ▸ h.target1
  enabled := hw.keep (fun _ _ w => w.gie) h.enabled
  port := hw.keep (fun _ _ w => w.portHolds) h.port
  outputs := by
    have houtputs := h.outputs
    simp only [outputsAgree_iff, State.level, hcnt, hfc, htgt, hout] at houtputs ⊢
    exact houtputs

theorem Sound.ramp {m : Nat} {s : State} (h : Sound m s) : Sound m (ramp s) := by
  have hframe := ramp_frame s
  refine h.of_writes (writes_ramp s) ⟨?_, ?_⟩ ?_ ⟨?_, ?_⟩ ?_ <;> rw [hframe]

theorem Sound.edgeTo {m : Nat} {s : State} (h : Sound m s) (l : Bool) : Sound m (edgeTo l s) := by
  cases l with
  | false => exact ⟨h.edges, h.counters, h.frame, h.target0, h.target1, h.enabled, h.port, h.outputs⟩
  | true =>
    have hframe := rise_frame s
    rw [edgeTo_true]
    refine h.of_writes (writes_rise s) ⟨?_, ?_⟩ ?_ ⟨?_, ?_⟩ ?_ <;> rw [hframe]

/-- Right after S1's commit each output is the comparison of its counter with its target (R113). -/
theorem pwmBody_level (s : State) (ch : Channel) :
    (pwmBody s).level ch = decide (((pwmBody s).cnt ch).toNat < ((pwmBody s).tgt ch).toNat) := by
  rw [pwmBody_eq]
  cases ch with
  | ch0 => exact (level_ch0_of_out rfl).trans (by simp)
  | ch1 => exact (level_ch1_of_out rfl).trans (by simp)

theorem Sound.pwmBody {m : Nat} {s : State} (h : Sound m s) : Sound (m + 1) (pwmBody s) where
  edges := (writes_pwmBody s).keep (fun _ _ w => w.edgesAgree) h.edges
  counters := by rw [pwmBody_eq]; exact congrArg cntNext h.counters
  frame := by
    have hfc := h.frame
    simp only [pwmBody_eq, fcNext_toNat]
    omega
  target0 := by rw [pwmBody_eq]; exact h.target0
  target1 := by rw [pwmBody_eq]; exact h.target1
  enabled := (writes_pwmBody s).keep (fun _ _ w => w.gie) h.enabled
  port := (writes_pwmBody s).keep (fun _ _ w => w.portHolds) h.port
  outputs := outputsAgree_iff.2 (.inr ⟨pwmBody_level s .ch0, pwmBody_level s .ch1⟩)

/-- S2 services a full frame, and brings `FC` back below 2930. -/
theorem Sound.frameStep {m : Nat} {s : State} (h : Sound m s) : Sound 2929 (frameStep s) := by
  have hwrites := writes_frameStep s
  obtain ⟨-, hs⟩ | ⟨hlt, hs⟩ := frameStep_cases s
  · refine
      { edges := hwrites.keep (fun _ _ w => w.edgesAgree) h.edges
        counters := ?_, frame := ?_, target0 := ?_, target1 := ?_
        enabled := hwrites.keep (fun _ _ w => w.gie) h.enabled
        port := hwrites.keep (fun _ _ w => w.portHolds) h.port
        outputs := outputsAgree_iff.2 (.inl ?_) } <;> rw [hs, onFrameTick_frame]
    · exact h.counters
    · exact Nat.zero_le _
    · exact (drawValue_of_edgesAgree h.edges _).2.2
    · exact (drawValue_of_edgesAgree h.edges _).2.2
  · rw [hs]
    exact { h with frame := by omega }

theorem Sound.dispatch {s : State} (h : Sound 2929 s) : Sound 2929 (dispatch s) := by
  have hpwm : Sound 2930 (if s.pend.t0 then Machine.pwmBody s else s) := by
    split
    · exact h.pwmBody
    · exact h.mono (by decide)
  have hramp {u : State} (hu : Sound 2929 u) : Sound 2929 (if s.pend.t1 then Machine.ramp u else u) := by
    split
    · exact hu.ramp
    · exact hu
  have hedge {u : State} (hu : Sound 2929 u) :
      Sound 2929 (if s.pend.edge then Proofs.edgeTo s.pin u else u) := by
    split
    · exact hu.edgeTo _
    · exact hu
  rw [dispatch_eq]
  exact (hedge (hramp hpwm.frameStep)).withControl _ _ _

theorem Sound.invoke {s : State} (h : Sound 2929 s) (w : EventWord) : Sound 2929 (invoke w s) := by
  have hpresent : Sound 2929 (present w s) := h.withControl _ _ _
  obtain ⟨-, -, hs⟩ | ⟨-, hs⟩ := invoke_cases w s <;> rw [hs]
  · exact hpresent.dispatch
  · exact hpresent

/-! ## The agenda -/

/-- No write touches the agenda. -/
theorem Write.agenda {s t : State} (h : Write s t) : t.agenda = s.agenda := by
  cases h <;> rfl

theorem Writes.agenda {s t : State} (h : Writes s t) : t.agenda = s.agenda :=
  h.keep (P := fun u => u.agenda = s.agenda) (fun _ _ w hu => w.agenda.trans hu) rfl

/-- A hardware turn that is a command decodes to an event word. -/
theorem decode_of_hardwareTurn {c : Command} (h : hardwareTurn (.command c) = true) :
    ∃ w, decode c = .ok (wordInstr w) := by
  simp only [hardwareTurn, Bool.and_eq_true, beq_iff_eq] at h
  exact decode_of_wellFormed_word h.1 h.2

theorem reachable_of_writes {s t : State} (hs : s.inService = false)
    (hagenda : s.agenda.all hardwareTurn = true) (hw : Writes s t) (ht : Sound 2929 t) :
    reachable t = true :=
  reachable_iff.2 ⟨ht, hw.keep (P := fun u => u.inService = false) (fun _ _ w => w.inService) hs,
    hw.agenda ▸ hagenda⟩

/-- The Dispatcher's own turn keeps the invariants: it invokes or idles. -/
theorem reachable_autonomous {s : State} (hs : Sound 2929 s) (his : s.inService = false)
    (hagenda : s.agenda.all hardwareTurn = true) (i : Instr) (hi : i = .dispatch ∨ i = .idle) :
    ∃ t, exec i s = .next t ∧ reachable t = true := by
  obtain rfl | rfl := hi
  · exact ⟨_, rfl, reachable_of_writes his hagenda (writes_dispatch s) hs.dispatch⟩
  · exact ⟨_, rfl, reachable_iff.2 ⟨hs, his, hagenda⟩⟩

theorem autonomous_eq_or (s : State) : autonomous s = .dispatch ∨ autonomous s = .idle := by
  obtain ⟨-, h⟩ | ⟨-, h⟩ := autonomous_cases s
  · exact .inl h
  · exact .inr h

/-- Settles O59: by the head of the agenda; an environment step touches only flags and pin, and the
Dispatcher's turn and an event word are at most one invocation. -/
theorem hardwareRunsKeepTheInvariants : Obligations.HardwareRunsKeepTheInvariants := by
  intro s h
  obtain ⟨hs, his, hagenda⟩ := reachable_iff.1 h
  cases hturns : s.agenda with
  | nil =>
    rw [step_nil hturns]
    exact reachable_autonomous hs his hagenda _ (autonomous_eq_or s)
  | cons turn rest =>
    rw [hturns, List.all_cons, Bool.and_eq_true] at hagenda
    obtain ⟨hturn, hrest⟩ := hagenda
    have hs' : Sound 2929 (s.setAgenda rest) := hs.setAgenda rest
    cases turn with
    | env e =>
      refine ⟨_, step_env hturns, reachable_iff.2 ?_⟩
      cases e with
      | timer0 => exact ⟨hs'.withControl _ _ _, his, hrest⟩
      | timer1 => exact ⟨hs'.withControl _ _ _, his, hrest⟩
      | pinEdge => exact ⟨hs'.withControl _ _ _, his, hrest⟩
    | dispatcher =>
      rw [step_dispatcher hturns]
      exact reachable_autonomous hs' his hrest _ (autonomous_eq_or s)
    | command c =>
      obtain ⟨w, hw⟩ := decode_of_hardwareTurn hturn
      refine ⟨_, (step_command hturns hw).trans (exec_word w _), ?_⟩
      exact reachable_of_writes (s := s.setAgenda rest) his hrest (writes_invoke w _) (hs'.invoke w)

theorem sound_cold (x : Seed) (f : Pending) (p : Bool) : Sound 2929 (State.cold x f p) where
  edges := edgesAgree_of_computed (State.cold x f p) 0
  counters := rfl
  frame := Nat.zero_le _
  target0 := (by decide : (1 : Byte).toNat ≤ 254)
  target1 := (by decide : (1 : Byte).toNat ≤ 254)
  enabled := rfl
  port := portHolds_iff.2 (.nil 0)
  outputs := outputsAgree_iff.2 (.inl rfl)

/-- Settles O57: no invariant reads the seed, the flags or the pin of the cold start. -/
theorem coldStartSatisfiesTheInvariants : Obligations.ColdStartSatisfiesTheInvariants := by
  have hcold (x : Seed) (f : Pending) (p : Bool) :
      settled (State.cold x f p) = true ∧ reachable (State.cold x f p) = true :=
    ⟨settled_iff.2 ⟨(sound_cold x f p).edges, rfl⟩, reachable_iff.2 ⟨sound_cold x f p, rfl, rfl⟩⟩
  exact ⟨hcold, hcold 0 ⟨false, false, false⟩ false⟩

end Sys2Proof.Proofs
end

section
/-! SUPPORT. Steps by the turn they take, and which of them stop (R87, R155, R170, R173 to R175). -/

namespace Sys2Proof.Proofs

open Sys2Proof Sys2Proof.Machine Sys2Proof.Safety

/-- Settles O5: the decoder rejects the number, so the step that is presented with it stops. -/
theorem unassignedOperationNumbersAreRefused : Obligations.UnassignedOperationNumbersAreRefused := by
  intro s n a b rest h23 h31
  have hrejected := decode_unassigned a b h23 h31
  exact ⟨hrejected, step_rejected rfl hrejected⟩

theorem decodeTableWord_eq_some_iff {nbits w : Nat} {i : Instr} :
    decodeTableWord nbits w = some i ↔ decode (tableCommand nbits w) = .ok i := by
  unfold decodeTableWord
  cases decode (tableCommand nbits w) <;> simp

/-- Settles O7: the command at the head is decoded; a placed table word leaves the agenda it was put on. -/
theorem stepRunsTheDecodedInstruction : Obligations.StepRunsTheDecodedInstruction := by
  refine ⟨fun s c rest i hagenda hc => step_command hagenda hc, fun s nbits w i hw => ?_⟩
  exact step_command (s := s.withFetchWord nbits w) rfl (decodeTableWord_eq_some_iff.1 hw)

/-- Settles O8: each environment step is the head of the agenda, and its writes are spelled out. -/
theorem environmentStepsSetTheirFlags : Obligations.EnvironmentStepsSetTheirFlags :=
  fun _ _ => ⟨(step_env rfl).trans rfl, (step_env rfl).trans rfl, (step_env rfl).trans rfl⟩

theorem mayBegin_iff {s : State} :
    mayBegin s = true ↔
      s.gie = true ∧ s.inService = false ∧
        (s.pend.t0 = true ∨ s.pend.t1 = true ∨ s.pend.edge = true) := by
  simp [mayBegin, interruptible, Pending.any, and_assoc, or_assoc]

/-- Settles O9: by the invocation condition, which is what the Dispatcher's turn tests. -/
theorem invocationBeginsExactlyWhenAllowed : Obligations.InvocationBeginsExactlyWhenAllowed := by
  intro s rest
  rw [← mayBegin_iff]
  have hautonomous (l : List Turn) : autonomous { s with agenda := l } = autonomous s := rfl
  obtain ⟨hmay, hauto⟩ | ⟨hmay, hauto⟩ := autonomous_cases s
  · refine ⟨fun _ => ⟨?_, ?_⟩, fun hnot => absurd hmay hnot⟩
    · rw [step_dispatcher rfl, hautonomous, hauto]; rfl
    · rw [step_nil rfl, hautonomous, hauto]
  · refine ⟨fun hyes => by simp [hmay] at hyes, fun _ => ⟨?_, ?_⟩⟩
    · rw [step_dispatcher rfl, hautonomous, hauto]; rfl
    · rw [step_nil rfl, hautonomous, hauto]; rfl

/-- Settles O10: every instruction completes, so a step can stop only where the decoder rejects. -/
theorem everyOperationCompletes : Obligations.EveryOperationCompletes := by
  refine ⟨fun i s => ⟨after i s, exec_eq_after i s⟩, fun s => ?_⟩
  cases hagenda : s.agenda with
  | nil => exact .inl ⟨_, (step_nil hagenda).trans (exec_eq_after _ _)⟩
  | cons turn rest =>
    cases turn with
    | env e => exact .inl ⟨_, step_env hagenda⟩
    | dispatcher => exact .inl ⟨_, (step_dispatcher hagenda).trans (exec_eq_after _ _)⟩
    | command c =>
      cases hc : decode c with
      | ok i => exact .inl ⟨_, (step_command hagenda hc).trans (exec_eq_after _ _)⟩
      | error why => exact .inr ⟨c, rest, why, rfl, hc, step_rejected hagenda hc⟩

end Sys2Proof.Proofs
end

section
/-! SUPPORT. The seed recurrence: its inverse, and what of a seed reaches the bytes (R100 to R104). -/

namespace Sys2Proof.Proofs

open Sys2Proof Sys2Proof.Machine Sys2Proof.Safety

/-- Settles O11: SEED's two writes. -/
theorem seedWritesSeedZeroOnly : Obligations.SeedWritesSeedZeroOnly :=
  fun s => congrArg Host.Outcome.next (reseed_eq s)

/-- Settles O12: the new seed and its byte as numbers. -/
theorem nextByteAdvancesSeedAndReturnsItsByte : Obligations.NextByteAdvancesSeedAndReturnsItsByte :=
  fun s => ⟨_, rfl, lcgNext_toNat s.seed, seedByte_toNat (lcgNext s.seed), rfl⟩

/-- The recurrence run backwards: the increment taken off, then the inverse of the multiplier modulo
2^32. -/
def lcgPrev (y : Seed) : Seed := (y - 12345) * 0xEEB9EB65

theorem lcg_multiplier_inverse : (1103515245 : Seed) * 0xEEB9EB65 = 1 := by decide

theorem lcgPrev_lcgNext (x : Seed) : lcgPrev (lcgNext x) = x := by
  rw [lcgPrev, lcgNext_eq, BitVec.add_sub_cancel, BitVec.mul_assoc, lcg_multiplier_inverse, mul_one]

theorem lcgNext_lcgPrev (y : Seed) : lcgNext (lcgPrev y) = y := by
  rw [lcgPrev, lcgNext_eq, BitVec.mul_assoc, BitVec.mul_comm 0xEEB9EB65, lcg_multiplier_inverse,
    mul_one, BitVec.sub_add_cancel]

/-- The recurrence changes the parity of the seed, so it has no fixed point. -/
theorem lcgNext_parity (x : Seed) : (lcgNext x).toNat % 2 = (x.toNat + 1) % 2 := by
  rw [lcgNext_toNat]
  omega

/-- Settles O13: no fixed point by parity, a bijection by the inverse. -/
theorem seedRecurrenceIsBijectiveWithoutFixedPoint :
    Obligations.SeedRecurrenceIsBijectiveWithoutFixedPoint := by
  refine ⟨fun x hx => ?_, Function.bijective_iff_has_inverse.2 ⟨lcgPrev, lcgPrev_lcgNext, lcgNext_lcgPrev⟩⟩
  have hparity := lcgNext_parity x
  rw [hx] at hparity
  omega

/-- The low 24 bits of the new seed come from the low 24 bits of the old. -/
theorem lcgNext_low24_congr {x y : Seed} (h : x.toNat % 2 ^ 24 = y.toNat % 2 ^ 24) :
    (lcgNext x).toNat % 2 ^ 24 = (lcgNext y).toNat % 2 ^ 24 := by
  rw [lcgNext_toNat, lcgNext_toNat]
  omega

/-- A seed's byte lies in its low 24 bits. -/
theorem seedByte_low24_congr {x y : Seed} (h : x.toNat % 2 ^ 24 = y.toNat % 2 ^ 24) :
    seedByte x = seedByte y := by
  apply BitVec.eq_of_toNat_eq
  rw [seedByte_toNat, seedByte_toNat]
  omega

theorem xor_bit31_low24 (x : Seed) : (x ^^^ 0x80000000).toNat % 2 ^ 24 = x.toNat % 2 ^ 24 := by
  have hbit31 : (0x80000000 : Seed).toNat % 2 ^ 24 = 0 := rfl
  rw [BitVec.toNat_xor, Nat.xor_mod_two_pow, hbit31, Nat.xor_zero]

/-- Settles O14: the rows are evaluated; bit 31 is not among the low 24 bits that reach the byte. -/
theorem successiveGeneratorResults : Obligations.SuccessiveGeneratorResults := by
  have hbit31 (x : Seed) : seedByte (lcgNext (x ^^^ 0x80000000)) = seedByte (lcgNext x) :=
    seedByte_low24_congr (lcgNext_low24_congr (xor_bit31_low24 x))
  refine ⟨?_, ?_, ?_, ?_, ?_, ?_, ?_, ?_, ?_, ?_, ?_, hbit31⟩ <;> decide

theorem iterate_nextByte_ret_congr {s t : State} (n : Nat)
    (h : s.seed.toNat % 2 ^ 24 = t.seed.toNat % 2 ^ 24) :
    ((after .nextByte)^[n + 1] s).ret = ((after .nextByte)^[n + 1] t).ret := by
  induction n generalizing s t with
  | zero => exact seedByte_low24_congr (lcgNext_low24_congr h)
  | succ n ih =>
    rw [Function.iterate_succ_apply, Function.iterate_succ_apply (x := t)]
    exact ih (lcgNext_low24_congr h)

/-- Settles O15: by induction on the run, the seeds go on agreeing in their low 24 bits. -/
theorem highSeedBitsNeverReachAByte : Obligations.HighSeedBitsNeverReachAByte :=
  fun s t n h => ⟨_, _, execTimes_eq_iterate .nextByte (n + 1) s, execTimes_eq_iterate .nextByte (n + 1) t,
    iterate_nextByte_ret_congr n h⟩

end Sys2Proof.Proofs
end

section
/-! SUPPORT. The duty edges and the brightness: INCREMENT and DECREMENT as numbers, and how far one
instruction moves the brightness (R120 to R125, R134). -/

namespace Sys2Proof.Proofs

open Sys2Proof Sys2Proof.Machine Sys2Proof.Safety

/-- Settles O22: the edges as numbers. -/
theorem edgesFollowTheFormula : Obligations.EdgesFollowTheFormula :=
  fun s => ⟨_, rfl, lowEdge_toNat s.bright, highEdge_toNat s.bright, rfl⟩

/-- Settles O23: the edges as numbers leave linear arithmetic over the brightness. -/
theorem edgeGapIsAtLeastThirty : Obligations.EdgeGapIsAtLeastThirty := by
  have hgap (b : Byte) : 30 ≤ ((highEdge b).toNat : Int) - ((lowEdge b).toNat : Int) ∧
      ((highEdge b).toNat : Int) - ((lowEdge b).toNat : Int) ≤ 206 := by
    have hb := b.isLt
    rw [highEdge_toNat, lowEdge_toNat]
    omega
  refine ⟨fun b => ⟨(hgap b).1, (hgap b).2, fun heq => ?_⟩, rfl, rfl, rfl, fun a b hab => ?_, rfl, rfl⟩
  · have hpositive := (hgap b).1
    rw [heq] at hpositive
    omega
  · simp only [lowEdge_toNat, highEdge_toNat]
    omega

/-- Settles O24: the two cases of INCREMENT. -/
theorem incrementClampsAtTheCeiling : Obligations.IncrementClampsAtTheCeiling := by
  intro s
  obtain ⟨hlt, b, hb, h⟩ | ⟨heq, h⟩ := increment_cases s
  · refine ⟨fun _ => ⟨_, exec_increment s, ?_⟩, fun heq => by omega⟩
    rw [h]
    exact ⟨hb, hb ▸ lowEdge_toNat b, hb ▸ highEdge_toNat b, rfl⟩
  · exact ⟨fun hlt => by omega, fun _ => by rw [exec_increment, h]⟩

theorem exec_decrement (s : State) : exec .decrement s = .next (decrement s) := rfl

/-- Settles O25: the two cases of DECREMENT. -/
theorem decrementClampsAtTheFloor : Obligations.DecrementClampsAtTheFloor := by
  intro s
  obtain ⟨hlt, b, hb, h⟩ | ⟨heq, h⟩ := decrement_cases s
  · refine ⟨fun _ => ⟨_, exec_decrement s, ?_⟩, fun heq => by omega⟩
    rw [h]
    exact ⟨hb, hb ▸ lowEdge_toNat b, hb ▸ highEdge_toNat b, rfl⟩
  · exact ⟨fun hlt => by omega, fun _ => by rw [exec_decrement, h]⟩

/-! ## Repeated changes -/

theorem increment_bright (s : State) :
    (increment s).bright.toNat = min 255 (s.bright.toNat + 1) := by
  obtain ⟨hlt, b, hb, h⟩ | ⟨heq, h⟩ := increment_cases s <;> rw [h]
  · simp only [hb]; omega
  · omega

theorem decrement_bright (s : State) : (decrement s).bright.toNat = s.bright.toNat - 1 := by
  obtain ⟨hlt, b, hb, h⟩ | ⟨heq, h⟩ := decrement_cases s <;> rw [h]
  · exact hb
  · omega

theorem iterate_increment_bright (n : Nat) (s : State) :
    (increment^[n] s).bright.toNat = min 255 (s.bright.toNat + n) := by
  induction n with
  | zero => have hb := s.bright.isLt; simp only [Function.iterate_zero, id]; omega
  | succ n ih => rw [Function.iterate_succ_apply', increment_bright, ih]; omega

theorem iterate_decrement_bright (n : Nat) (s : State) :
    (decrement^[n] s).bright.toNat = s.bright.toNat - n := by
  induction n with
  | zero => rfl
  | succ n ih => rw [Function.iterate_succ_apply', decrement_bright, ih]; omega

/-- Settles O26: by induction on the number of changes. -/
theorem repeatedBrightnessChangesClamp : Obligations.RepeatedBrightnessChangesClamp :=
  fun s n => ⟨⟨_, execTimes_eq_iterate .increment n s, iterate_increment_bright n s⟩,
    ⟨_, execTimes_eq_iterate .decrement n s, iterate_decrement_bright n s⟩⟩

theorem onFrameTick_bright (s : State) :
    (onFrameTick s).bright.toNat = s.bright.toNat - (if s.hold then 0 else 1) := by
  obtain ⟨hh, h⟩ | ⟨hh, h⟩ := onFrameTick_cases s <;> simp only [h, hh, Bool.false_eq_true, if_true, if_false]
  · rfl
  · exact decrement_bright _

theorem onFrameTick_hold (s : State) : (onFrameTick s).hold = s.hold := by
  rw [onFrameTick_frame]

theorem iterate_onFrameTick (n : Nat) (s : State) :
    (onFrameTick^[n] s).hold = s.hold ∧
      (onFrameTick^[n] s).bright.toNat = s.bright.toNat - (if s.hold then 0 else n) := by
  induction n with
  | zero => simp
  | succ n ih =>
    rw [Function.iterate_succ_apply', onFrameTick_hold, onFrameTick_bright, ih.1, ih.2]
    refine ⟨rfl, ?_⟩
    cases s.hold with
    | false => simp only [Bool.false_eq_true, if_false]; omega
    | true => rfl

/-- Settles O31: by induction on the number of frame ticks. -/
theorem frameTicksDecayUnlessHeld : Obligations.FrameTicksDecayUnlessHeld := by
  intro s n
  obtain ⟨hhold, hbright⟩ := iterate_onFrameTick n s
  refine ⟨_, execTimes_eq_iterate .onFrameTick n s, hhold, fun hh => ?_, fun hh => ?_⟩
  · exact hbright.trans (by simp [hh])
  · exact BitVec.eq_of_toNat_eq (hbright.trans (by simp [hh]))

/-! ## How far the brightness moves -/

/-- From `s` to `t` the brightness goes at most `down` down and at most `up` up. -/
def BrightnessMoves (down up : Nat) (s t : State) : Prop :=
  t.bright.toNat ≤ s.bright.toNat + up ∧ s.bright.toNat ≤ t.bright.toNat + down

theorem BrightnessMoves.of_eq {down up : Nat} {s t : State} (h : t.bright = s.bright) :
    BrightnessMoves down up s t := by
  rw [BrightnessMoves, h]
  omega

theorem BrightnessMoves.trans {d d' u u' : Nat} {s t v : State} (h : BrightnessMoves d u s t)
    (h' : BrightnessMoves d' u' t v) : BrightnessMoves (d + d') (u + u') s v := by
  unfold BrightnessMoves at *
  omega

theorem BrightnessMoves.mono {d d' u u' : Nat} {s t : State} (h : BrightnessMoves d u s t)
    (hd : d ≤ d') (hu : u ≤ u') : BrightnessMoves d' u' s t := by
  unfold BrightnessMoves at *
  omega

theorem moves_increment (s : State) : BrightnessMoves 0 1 s (increment s) := by
  have hb := s.bright.isLt
  rw [BrightnessMoves, increment_bright]
  omega

theorem moves_decrement (s : State) : BrightnessMoves 1 0 s (decrement s) := by
  rw [BrightnessMoves, decrement_bright]
  omega

theorem moves_onFrameTick (s : State) : BrightnessMoves 1 0 s (onFrameTick s) := by
  rw [BrightnessMoves, onFrameTick_bright]
  split <;> omega

theorem moves_rise (s : State) : BrightnessMoves 0 1 s (rise s) := moves_increment (s.setHold true)

theorem moves_ramp (s : State) : BrightnessMoves 0 1 s (ramp s) := by
  obtain ⟨-, h⟩ | ⟨-, h⟩ := ramp_cases s <;> rw [h]
  · exact moves_increment s
  · exact .of_eq rfl

theorem moves_edgeTo (l : Bool) (s : State) : BrightnessMoves 0 1 s (edgeTo l s) := by
  cases l with
  | false => exact .of_eq rfl
  | true => exact moves_rise s

theorem pwmBody_bright (s : State) : (pwmBody s).bright = s.bright := by
  rw [pwmBody_eq]

theorem moves_pwmStep (s : State) : BrightnessMoves 0 0 s (pwmStep s) :=
  .of_eq (by rw [pwmStep_frame])

theorem moves_frameStep (s : State) : BrightnessMoves 1 0 s (frameStep s) := by
  obtain ⟨-, h⟩ | ⟨-, h⟩ := frameStep_cases s <;> rw [h]
  · exact moves_onFrameTick s
  · exact .of_eq rfl

theorem moves_incStep (s : State) : BrightnessMoves 0 1 s (incStep s) := by
  obtain ⟨-, h⟩ | ⟨-, h⟩ := incStep_cases s <;> rw [h]
  · exact moves_ramp s
  · exact .of_eq rfl

theorem moves_edgeStep (s : State) : BrightnessMoves 0 1 s (edgeStep s) := by
  obtain ⟨-, h⟩ | ⟨-, h⟩ := edgeStep_cases s <;> rw [h]
  · exact moves_edgeTo s.pin s
  · exact .of_eq rfl

/-- In one invocation at most the frame tick lowers the brightness, and at most the ramp and a press raise
it (R125). -/
theorem moves_dispatch (s : State) : BrightnessMoves 1 2 s (dispatch s) :=
  (((moves_pwmStep (enter s)).trans (moves_frameStep _)).trans (moves_incStep _)).trans (moves_edgeStep _)

theorem moves_invoke (w : EventWord) (s : State) : BrightnessMoves 1 2 s (invoke w s) := by
  obtain ⟨-, -, h⟩ | ⟨-, h⟩ := invoke_cases w s <;> rw [h]
  · exact moves_dispatch (present w s)
  · exact .of_eq rfl

/-- The instructions that are an invocation: DISPATCH and the event words. -/
def IsInvocation (i : Instr) : Prop := i = .dispatch ∨ ∃ w, i = wordInstr w

theorem moves_after_invocation {i : Instr} (hi : IsInvocation i) (s : State) :
    BrightnessMoves 1 2 s (after i s) := by
  obtain rfl | ⟨w, rfl⟩ := hi
  · exact moves_dispatch s
  · exact after_word w s ▸ moves_invoke w s

theorem moves_after {i : Instr} (hreset : i ≠ .reset) (hi : ¬ IsInvocation i) (s : State) :
    BrightnessMoves 1 1 s (after i s) := by
  revert hreset hi
  cases i using instr_cases_by_word with
  | word w => exact fun _ hi => absurd (.inr ⟨w, rfl⟩) hi
  | dispatch => exact fun _ hi => absurd (.inl rfl) hi
  | reset => exact fun hreset => absurd rfl hreset
  | slotP =>
    exact fun _ _ => ((BrightnessMoves.of_eq (down := 0) (up := 0) (pwmBody_bright s)).trans
      (moves_frameStep _)).mono (by decide) (by decide)
  | slotI => exact fun _ _ => (moves_ramp s).mono (by decide) (by decide)
  | slotRise => exact fun _ _ => (moves_rise (s.setPin true)).mono (by decide) (by decide)
  | increment => exact fun _ _ => (moves_increment s).mono (by decide) (by decide)
  | decrement => exact fun _ _ => (moves_decrement s).mono (by decide) (by decide)
  | onFrameTick => exact fun _ _ => (moves_onFrameTick s).mono (by decide) (by decide)
  | rise => exact fun _ _ => (moves_rise s).mono (by decide) (by decide)
  | ramp => exact fun _ _ => (moves_ramp s).mono (by decide) (by decide)
  | edgeSvc => exact fun _ _ => (moves_edgeTo s.pin s).mono (by decide) (by decide)
  | pwmStep => exact fun _ _ => (moves_pwmStep s).mono (by decide) (by decide)
  | frameStep => exact fun _ _ => (moves_frameStep s).mono (by decide) (by decide)
  | incStep => exact fun _ _ => (moves_incStep s).mono (by decide) (by decide)
  | edgeStep => exact fun _ _ => (moves_edgeStep s).mono (by decide) (by decide)
  | _ => exact fun _ _ => .of_eq rfl

/-- Settles O27: an invocation is its four steps, and every other instruction is one change at most. -/
theorem brightnessMovesByAtMostTwo : Obligations.BrightnessMovesByAtMostTwo := by
  refine ⟨fun i s t hreset h => ?_, fun i s t hnot h => ?_⟩
  · rw [exec_eq_next_iff] at h
    subst h
    by_cases hi : IsInvocation i
    · exact moves_after_invocation hi s
    · exact (moves_after hreset hi s).mono le_rfl (by decide)
  · rw [exec_eq_next_iff] at h
    subst h
    have hreset : i ≠ .reset := by
      rintro rfl
      exact hnot (by decide)
    have hi : ¬ IsInvocation i := by
      rintro (rfl | ⟨w, rfl⟩)
      · exact hnot (by decide)
      · revert w
        decide
    exact (moves_after hreset hi s).1

end Sys2Proof.Proofs
end

section
/-! SUPPORT. The channel operations and the output predicate (R110 to R113). -/

namespace Sys2Proof.Proofs

open Sys2Proof Sys2Proof.Machine Sys2Proof.Safety

/-- Settles O16: TICK by channel. -/
theorem tickCountsAndCompares : Obligations.TickCountsAndCompares := by
  intro s ch
  have hother (ch' : Channel) (hne : ch' ≠ ch) : (after (.tick ch) s).cnt ch' = s.cnt ch' :=
    (State.setCnt_cnt s ch ch' (cntNext (s.cnt ch))).trans (if_neg hne)
  refine ⟨_, exec_eq_after (.tick ch) s, ?_, hother, ?_, ?_⟩ <;> cases ch
  · exact cntNext_toNat s.cnt0
  · exact cntNext_toNat s.cnt1
  · exact if_congr decide_eq_true_iff rfl rfl
  · exact if_congr decide_eq_true_iff rfl rfl
  · rfl
  · rfl

/-- Settles O17: the one write of SETTARGET, by channel. -/
theorem setTargetWritesTheTargetOnly : Obligations.SetTargetWritesTheTargetOnly :=
  fun _ _ => ⟨rfl, rfl⟩

/-! ## S1 and S2 by their condition -/

theorem pwmStep_of_pending {s : State} (ht : s.pend.t0 = true) : pwmStep s = pwmBody s := by
  obtain ⟨-, h⟩ | ⟨hf, -⟩ := pwmStep_cases s
  · exact h
  · simp [hf] at ht

theorem pwmStep_of_not_pending {s : State} (ht : s.pend.t0 = false) : pwmStep s = s := by
  obtain ⟨hp, -⟩ | ⟨-, h⟩ := pwmStep_cases s
  · simp [hp] at ht
  · exact h

theorem frameStep_of_full {s : State} (hfc : 2930 ≤ s.fc.toNat) :
    frameStep s = { onFrameTick s with fc := 0 } := by
  obtain ⟨-, h⟩ | ⟨hlt, -⟩ := frameStep_cases s
  · exact h
  · omega

theorem frameStep_of_not_full {s : State} (hfc : s.fc.toNat ≤ 2929) : frameStep s = s := by
  obtain ⟨hle, -⟩ | ⟨-, h⟩ := frameStep_cases s
  · omega
  · exact h

theorem exec_pwmStep (s : State) : exec .pwmStep s = .next (pwmStep s) := rfl

theorem exec_frameStep (s : State) : exec .frameStep s = .next (frameStep s) := rfl

theorem pwmBody_trace (s : State) :
    (pwmBody s).trace = s.trace ++ [.out ((pwmBody s).level .ch1) ((pwmBody s).level .ch0)] := by
  have h0 : (pwmBody s).level .ch0 = decide ((s.cnt0.toNat + 1) % 256 < s.tgt0.toNat) := by
    rw [pwmBody_eq]
    exact level_ch0_of_out rfl
  have h1 : (pwmBody s).level .ch1 = decide ((s.cnt1.toNat + 1) % 256 < s.tgt1.toNat) := by
    rw [pwmBody_eq]
    exact level_ch1_of_out rfl
  rw [h0, h1, pwmBody_eq]

/-- Settles O19: S1's commit compares, SETTARGET does not write the port, and the cold start's port is 0. -/
theorem outputPredicateHoldsAtCommits : Obligations.OutputPredicateHoldsAtCommits := by
  refine ⟨fun s ch ht => ⟨_, exec_pwmStep s, ?_⟩, fun s ch v => ⟨_, exec_eq_after _ s, rfl⟩,
    fun x f p ch => ⟨rfl, ?_⟩⟩
  · rw [pwmStep_of_pending ht, pwmBody_level, decide_eq_true_iff]
  · cases ch
    · exact (by decide : (0 : Byte).toNat < (1 : Byte).toNat)
    · exact (by decide : (0 : Byte).toNat < (1 : Byte).toNat)

/-- Settles O37: by the flag; the body of S1 as one state update. -/
theorem pwmStepServicesTheTick : Obligations.PwmStepServicesTheTick := by
  intro s
  refine ⟨fun ht => ⟨_, exec_pwmStep s, ?_⟩, fun ht => by rw [exec_pwmStep, pwmStep_of_not_pending ht]⟩
  rw [pwmStep_of_pending ht]
  have htgt0 : (pwmBody s).tgt .ch0 = s.tgt0 := by rw [pwmBody_eq]; rfl
  have htgt1 : (pwmBody s).tgt .ch1 = s.tgt1 := by rw [pwmBody_eq]; rfl
  refine ⟨?_, ?_, htgt0 ▸ pwmBody_level s .ch0, htgt1 ▸ pwmBody_level s .ch1, pwmBody_trace s, ?_, ?_, ?_⟩
  · rw [pwmBody_eq]; exact cntNext_toNat s.cnt0
  · rw [pwmBody_eq]; exact cntNext_toNat s.cnt1
  · rw [pwmBody_eq]; exact fcNext_toNat s.fc
  · rw [pwmBody_eq]
  · rw [pwmBody_eq]

/-- Settles O38: by the frame counter. -/
theorem frameStepServicesTheFrame : Obligations.FrameStepServicesTheFrame := by
  intro s
  refine ⟨fun hfull => ⟨onFrameTick s, rfl, ?_⟩, fun hlt => ?_⟩
  · rw [exec_frameStep, frameStep_of_full hfull]
  · rw [exec_frameStep, frameStep_of_not_full (by omega)]

end Sys2Proof.Proofs
end

section
/-! SUPPORT. DRAW, the frame tick and the operations of the hold input (R130 to R147). -/

namespace Sys2Proof.Proofs

open Sys2Proof Sys2Proof.Machine Sys2Proof.Safety

/-- Settles O28: the reduced byte, by the sign of the edge gap. -/
theorem drawReducesAByteIntoTheEdges : Obligations.DrawReducesAByteIntoTheEdges :=
  fun s ch => ⟨_, exec_eq_after (.draw ch) s, rfl, drawValue_of_lt (nextByte s),
    drawValue_of_le (nextByte s), rfl⟩

/-- Settles O30: the frame names both draws; the brightness is the decay's, or untouched. -/
theorem frameTickRedrawsThenDecays : Obligations.FrameTickRedrawsThenDecays := by
  intro s
  have hdecay : (s.hold = false ∧ 0 < s.bright.toNat) →
      (onFrameTick s).bright.toNat = s.bright.toNat - 1 ∧
      (onFrameTick s).low.toNat = 25 * (onFrameTick s).bright.toNat / 128 ∧
      (onFrameTick s).high.toNat = 113 * (onFrameTick s).bright.toNat / 128 + 30 := by
    rintro ⟨hh, hb⟩
    obtain ⟨ht, -⟩ | ⟨-, h⟩ := onFrameTick_cases s
    · simp [hh] at ht
    obtain ⟨-, b, hbright, hd⟩ | ⟨heq, -⟩ := decrement_cases (redraw .ch1 (redraw .ch0 s))
    · rw [h]
      exact hd ▸ ⟨hbright, lowEdge_toNat b, highEdge_toNat b⟩
    · exact absurd heq (Nat.ne_of_gt hb)
  have hkept : ¬ (s.hold = false ∧ 0 < s.bright.toNat) →
      (onFrameTick s).bright = s.bright ∧ (onFrameTick s).low = s.low ∧ (onFrameTick s).high = s.high := by
    intro hnot
    obtain ⟨-, h⟩ | ⟨hh, h⟩ := onFrameTick_cases s
    · rw [h]
      exact ⟨rfl, rfl, rfl⟩
    obtain ⟨hb, -⟩ | ⟨-, hd⟩ := decrement_cases (redraw .ch1 (redraw .ch0 s))
    · exact absurd ⟨hh, hb⟩ hnot
    · rw [h]
      exact hd ▸ ⟨rfl, rfl, rfl⟩
  refine ⟨onFrameTick s, rfl, ?_, ?_, ?_, hdecay, hkept, ?_⟩ <;> rw [onFrameTick_frame]

/-- Settles O32: RISE is INCREMENT with `HOLD` = 1 and a restart, so by the cases of INCREMENT. -/
theorem riseHoldsIncrementsAndRestarts : Obligations.RiseHoldsIncrementsAndRestarts := by
  intro s
  obtain ⟨hlt, b, hb, h⟩ | ⟨heq, h⟩ := increment_cases { s with hold := true }
  · refine ⟨fun _ => ⟨_, exec_rise s, ?_⟩, fun heq => absurd heq (Nat.ne_of_lt hlt)⟩
    rw [rise_eq, h]
    exact ⟨rfl, hb, lowEdge_toNat b, highEdge_toNat b, rfl, rfl⟩
  · refine ⟨fun hlt => absurd heq (Nat.ne_of_lt hlt), fun _ => ?_⟩
    rw [exec_rise, rise_eq, h]

/-- Settles O33: the writes of FALL and T1RESTART. -/
theorem fallAndRestartWriteNothingElse : Obligations.FallAndRestartWriteNothingElse :=
  fun s => ⟨congrArg Host.Outcome.next (fall_eq s), congrArg Host.Outcome.next (t1Restart_eq s)⟩

theorem exec_ramp (s : State) : exec .ramp s = .next (ramp s) := rfl

/-- Settles O34: RAMP by `HOLD`. -/
theorem rampIncrementsOnlyWhileHolding : Obligations.RampIncrementsOnlyWhileHolding := by
  intro s
  refine ⟨fun hh => ⟨_, ?_, exec_increment s⟩, fun hh => ?_⟩
  · rw [exec_ramp, ramp_of_hold hh]
  · rw [exec_ramp, ramp_of_not_hold hh]

/-- Settles O35: the edge service by the pin. -/
theorem edgeServiceFollowsThePinLevel : Obligations.EdgeServiceFollowsThePinLevel := by
  intro s
  refine ⟨edgeSvc s, exec_edgeSvc s, edgeSvc_hold s, ?_, edgeSvc_pend s, fun hp => ?_, fun hp => ?_⟩
  · rw [edgeSvc_frame]
  · rw [exec_rise, edgeSvc_eq_edgeTo, hp, edgeTo_true]
  · rw [exec_fall, edgeSvc_eq_edgeTo, hp, edgeTo_false]

/-! ## Where `HOLD` changes -/

theorem increment_hold (s : State) : (increment s).hold = s.hold := by rw [increment_frame]

theorem decrement_hold (s : State) : (decrement s).hold = s.hold := by rw [decrement_frame]

theorem ramp_hold (s : State) : (ramp s).hold = s.hold := by rw [ramp_frame]

theorem pwmBody_hold (s : State) : (pwmBody s).hold = s.hold := by rw [pwmBody_eq]

theorem pwmStep_hold (s : State) : (pwmStep s).hold = s.hold := by rw [pwmStep_frame]

theorem frameStep_hold (s : State) : (frameStep s).hold = s.hold := by rw [frameStep_frame]

theorem incStep_hold (s : State) : (incStep s).hold = s.hold := by rw [incStep_frame]

theorem edgeSvc_pin (s : State) : (edgeSvc s).pin = s.pin := by rw [edgeSvc_frame]

theorem edgeStep_pin (s : State) : (edgeStep s).pin = s.pin := by rw [edgeStep_frame]

theorem dispatch_pin (s : State) : (dispatch s).pin = s.pin := by rw [dispatch_eq]; rfl

/-- `HOLD` was copied from the pin, by a service that `c` allows, or it did not change. -/
def HoldFollows (c : Prop) (s t : State) : Prop := t.hold = s.hold ∨ (t.hold = t.pin ∧ c)

theorem holdFollows_edgeStep (s : State) : HoldFollows (s.pend.edge = true) s (edgeStep s) := by
  rw [HoldFollows, edgeStep_hold, edgeStep_pin]
  cases s.pend.edge <;> simp

theorem holdFollows_dispatch (s : State) : HoldFollows (s.pend.edge = true) s (dispatch s) := by
  rw [HoldFollows, dispatch_hold, dispatch_pin]
  cases s.pend.edge <;> simp

theorem holdFollows_invoke (w : EventWord) (s : State) :
    HoldFollows (wordE w = true ∨ s.pend.edge = true) s (invoke w s) := by
  obtain ⟨-, -, h⟩ | ⟨-, h⟩ := invoke_cases w s <;> rw [h]
  · obtain hsame | ⟨hpin, hedge⟩ := holdFollows_dispatch (present w s)
    · exact .inl hsame
    · refine .inr ⟨hpin, ?_⟩
      simpa [present_eq, or_comm] using hedge
  · exact .inl rfl

/-- The instructions after which `HOLD` is the pin whatever was pending: EDGESVC, the edge slots, the words
with `E` = 1. -/
def edgeInstrs : List Instr :=
  [.edgeSvc, .slotRise, .slotFall, .evFall, .evPFall, .evIFall, .evPIFall, .evRise, .evPRise,
    .evIRise, .evPIRise]

/-- The instructions that service an edge only where `IF.EDGE` is pending. -/
def flaggedEdgeInstrs : List Instr :=
  [.edgeStep, .dispatch, .evNone, .evP, .evI, .evPI, .evNoneL, .evPL, .evIL, .evPIL]

theorem wordInstr_mem_of_E (w : EventWord) :
    (wordE w = true → wordInstr w ∈ edgeInstrs) ∧ (wordE w = false → wordInstr w ∈ flaggedEdgeInstrs) := by
  revert w
  decide

theorem holdFollows_after (i : Instr) (s : State) :
    i ∈ [Instr.rise, .fall, .reset] ∨
      HoldFollows (i ∈ edgeInstrs ∨ (s.pend.edge = true ∧ i ∈ flaggedEdgeInstrs)) s (after i s) := by
  cases i using instr_cases_by_word with
  | word w =>
    right
    rw [after_word]
    obtain hsame | ⟨hpin, hedge⟩ := holdFollows_invoke w s
    · exact .inl hsame
    refine .inr ⟨hpin, ?_⟩
    obtain hE | hE := (wordE w).eq_false_or_eq_true
    · exact .inl ((wordInstr_mem_of_E w).1 hE)
    · exact .inr ⟨by simpa [hE] using hedge, (wordInstr_mem_of_E w).2 hE⟩
  | dispatch => exact .inr ((holdFollows_dispatch s).imp_right fun h => ⟨h.1, .inr ⟨h.2, by decide⟩⟩)
  | edgeStep => exact .inr ((holdFollows_edgeStep s).imp_right fun h => ⟨h.1, .inr ⟨h.2, by decide⟩⟩)
  | edgeSvc => exact .inr (.inr ⟨(edgeSvc_hold s).trans (edgeSvc_pin s).symm, .inl (by decide)⟩)
  | slotRise =>
    have hs := (edgeSvc_hold (s.setPin true)).trans (edgeSvc_pin (s.setPin true)).symm
    exact .inr (.inr ⟨hs, .inl (by decide)⟩)
  | slotFall =>
    have hs := (edgeSvc_hold (s.setPin false)).trans (edgeSvc_pin (s.setPin false)).symm
    exact .inr (.inr ⟨hs, .inl (by decide)⟩)
  | slotP => exact .inr (.inl ((frameStep_hold _).trans (pwmBody_hold s)))
  | slotI => exact .inr (.inl (ramp_hold s))
  | increment => exact .inr (.inl (increment_hold s))
  | decrement => exact .inr (.inl (decrement_hold s))
  | onFrameTick => exact .inr (.inl (onFrameTick_hold s))
  | ramp => exact .inr (.inl (ramp_hold s))
  | pwmStep => exact .inr (.inl (pwmStep_hold s))
  | frameStep => exact .inr (.inl (frameStep_hold s))
  | incStep => exact .inr (.inl (incStep_hold s))
  | rise => exact .inl (by decide)
  | fall => exact .inl (by decide)
  | reset => exact .inl (by decide)
  | _ => exact .inr (.inl rfl)

/-- Settles O36: only the edge service copies the pin into `HOLD`, and the environment never does. -/
theorem holdChangesOnlyInTheEdgeService : Obligations.HoldChangesOnlyInTheEdgeService := by
  refine ⟨fun i s t h hne => ?_, fun e s rest => ⟨_, step_env rfl, by cases e <;> rfl⟩⟩
  rw [exec_eq_next_iff] at h
  subst h
  obtain hi | hsame | hpin := holdFollows_after i s
  · exact .inl hi
  · exact absurd hsame hne
  · exact .inr hpin

end Sys2Proof.Proofs
end

section
/-! SUPPORT. Invocations by the flags they find: what they leave, event words as their slots, and the order
of the steps inside one (R150 to R161). -/

namespace Sys2Proof.Proofs

open Sys2Proof Sys2Proof.Machine Sys2Proof.Safety

/-! ## The operation DISPATCH -/

theorem exec_dispatch (s : State) : exec .dispatch s = .next (dispatch s) := rfl

/-- Settles O41: DISPATCH is the composition of the four steps. -/
theorem dispatchRunsTheFourStepsInOrder : Obligations.DispatchRunsTheFourStepsInOrder :=
  fun s => ⟨_, _, _, _, exec_pwmStep (enter s), exec_frameStep _, exec_incStep _, exec_edgeStep _,
    exec_dispatch s⟩

theorem frameStep_fc_le (s : State) : (frameStep s).fc.toNat ≤ 2929 := by
  obtain ⟨-, h⟩ | ⟨hlt, h⟩ := frameStep_cases s <;> rw [h]
  · exact Nat.zero_le _
  · omega

theorem dispatch_fc_le (s : State) : (dispatch s).fc.toNat ≤ 2929 := by
  have hfc : (dispatch s).fc = (frameStep (pwmStep (enter s))).fc := by
    rw [dispatch, leave_eq, edgeStep_frame, incStep_frame]
  exact hfc ▸ frameStep_fc_le _

/-- `GIE` and the model's own fields are what they were. -/
def KeepsOwn (s t : State) : Prop := t.gie = s.gie ∧ t.ret = s.ret ∧ t.seedings = s.seedings

theorem KeepsOwn.trans {s t u : State} (h : KeepsOwn s t) (h' : KeepsOwn t u) : KeepsOwn s u :=
  ⟨h'.1.trans h.1, h'.2.1.trans h.2.1, h'.2.2.trans h.2.2⟩

theorem keepsOwn_pwmStep (s : State) : KeepsOwn s (pwmStep s) := by
  rw [pwmStep_frame]
  exact ⟨rfl, rfl, rfl⟩

theorem keepsOwn_frameStep (s : State) : KeepsOwn s (frameStep s) := by
  rw [frameStep_frame]
  exact ⟨rfl, rfl, rfl⟩

theorem keepsOwn_incStep (s : State) : KeepsOwn s (incStep s) := by
  rw [incStep_frame]
  exact ⟨rfl, rfl, rfl⟩

theorem keepsOwn_edgeStep (s : State) : KeepsOwn s (edgeStep s) := by
  rw [edgeStep_frame]
  exact ⟨rfl, rfl, rfl⟩

theorem keepsOwn_dispatch (s : State) : KeepsOwn s (dispatch s) :=
  (((keepsOwn_pwmStep (enter s)).trans (keepsOwn_frameStep _)).trans (keepsOwn_incStep _)).trans
    (keepsOwn_edgeStep _)

/-- Settles O42: S1, S3 and S4 each clear their flag, S2 bounds `FC`, and the frames keep the rest. -/
theorem dispatchServicesEveryPendingFlag : Obligations.DispatchServicesEveryPendingFlag := by
  intro s
  obtain ⟨hgie, hret, hseedings⟩ := keepsOwn_dispatch s
  have hcontrol := dispatch_eq s
  refine ⟨dispatch s, exec_dispatch s, ?_, dispatch_fc_le s, ?_, hgie, dispatch_pin s, hret,
    (writes_dispatch s).agenda, hseedings⟩
  · rw [hcontrol]; rfl
  · rw [hcontrol]; rfl

theorem present_zero (s : State) : present 0 s = s := by
  simp [present_eq, wordP, wordI, wordE]

/-- With nothing pending and no frame due an invocation does nothing (R156). -/
theorem dispatch_of_nothing_pending {s : State} (hp : s.pend = ⟨false, false, false⟩)
    (hfc : s.fc.toNat ≤ 2929) (hs : s.inService = false) : dispatch s = s := by
  have hserviced : serviced s.pend s.pin s = s := by
    rw [hp]
    exact frameStep_of_not_full hfc
  rw [dispatch_eq, hserviced, ← hp, ← hs, withControl_self]

/-- Settles O43: the word `D -` presents nothing, and the invocation services nothing. -/
theorem spuriousInvocationIsANoop : Obligations.SpuriousInvocationIsANoop := by
  intro s hp hfc hs
  have hdispatch := dispatch_of_nothing_pending hp hfc hs
  refine ⟨by rw [exec_dispatch, hdispatch], ?_⟩
  have hword : exec .evNone s = .next (invoke 0 s) := exec_word 0 s
  obtain ⟨-, -, h⟩ | ⟨-, h⟩ := invoke_cases 0 s
  · rw [hword, h, present_zero, hdispatch]
  · rw [hword, h, present_zero]

/-- Settles O44: both are the identity. -/
theorem idleTouchesNothing : Obligations.IdleTouchesNothing := fun _ => ⟨rfl, rfl⟩

/-- Settles O45: a slot is its step's body, which is the step where the flag is pending. -/
theorem slotsRunTheirStepBodies : Obligations.SlotsRunTheirStepBodies := by
  have hslotI (s : State) : exec .slotI s = .next (incBody s) := rfl
  have hslotRise (s : State) : exec .slotRise s = .next (edgeBody (s.setPin true)) := rfl
  have hslotFall (s : State) : exec .slotFall s = .next (edgeBody (s.setPin false)) := rfl
  have hincStep {s : State} (ht : s.pend.t1 = true) : exec .incStep s = .next (incBody s) := by
    simp only [exec_incStep, incStep, ht, if_true]
  have hedgeStep {s : State} (he : s.pend.edge = true) : exec .edgeStep s = .next (edgeBody s) := by
    simp only [exec_edgeStep, edgeStep, he, if_true]
  have hsetPin {s : State} {l : Bool} (hp : s.pin = l) : s.setPin l = s := by subst hp; rfl
  have hpwm (s : State) : pwmBody { s with pend := { s.pend with t0 := true } } = pwmBody s := by
    simp only [pwmBody_eq]
  have hinc (s : State) : incBody { s with pend := { s.pend with t1 := true } } = incBody s :=
    (incBody_withControl s.inService ⟨s.pend.t0, true, s.pend.edge⟩ s.pin s).trans
      (incBody_withControl s.inService s.pend s.pin s).symm
  have hedge (l : Bool) (s : State) :
      edgeBody { s with pin := l, pend := { s.pend with edge := true } } = edgeBody (s.setPin l) :=
    (edgeBody_withControl s.inService ⟨s.pend.t0, s.pend.t1, true⟩ l s).trans
      (edgeBody_withControl s.inService s.pend l s).symm
  refine ⟨by decide, by decide, by decide, by decide, fun s => ⟨fun ht => ?_, fun he hp => ?_,
    fun he hp => ?_, ⟨pwmBody s, frameStep (pwmBody s), ?_, rfl, rfl⟩, ⟨incBody s, ?_, rfl⟩,
    ⟨edgeBody (s.setPin true), ?_, rfl⟩, ⟨edgeBody (s.setPin false), ?_, rfl⟩⟩⟩
  · rw [hslotI, hincStep ht]
  · rw [hslotRise, hsetPin hp, hedgeStep he]
  · rw [hslotFall, hsetPin hp, hedgeStep he]
  · rw [exec_pwmStep, pwmStep_of_pending rfl, hpwm]
  · rw [hincStep rfl, hinc]
  · rw [hedgeStep rfl, hedge]
  · rw [hedgeStep rfl, hedge]

/-! ## Event words as their slots -/

/-- The slots an event word selects, in the order P, I, E (R83, R161). -/
def slotsOf (w : EventWord) : List Instr :=
  ((if wordP w then [Instr.slotP] else []) ++ (if wordI w then [Instr.slotI] else [])) ++
    (if wordE w then [if wordL w then Instr.slotRise else Instr.slotFall] else [])

/-- Slot P and the S2 after it; where the word has no P, no frame is due either. -/
theorem execAll_slotP {u : State} (hfc : u.fc.toNat ≤ 2929) (p l : Bool) :
    execAll (if p then [.slotP] else []) (withControl false ⟨false, false, false⟩ l u) =
      .next (withControl false ⟨false, false, false⟩ l (frameStep (if p then pwmBody u else u))) := by
  cases p with
  | false =>
    have hkept : frameStep u = u := frameStep_of_not_full hfc
    simp only [Bool.false_eq_true, if_false, hkept]
    rfl
  | true =>
    have hslot (v : State) : execAll [.slotP] v = .next (frameStep (pwmBody v)) := rfl
    simp only [if_true, hslot, pwmBody_withControl, frameStep_withControl]

theorem execAll_slotI (u : State) (i l : Bool) :
    execAll (if i then [.slotI] else []) (withControl false ⟨false, false, false⟩ l u) =
      .next (withControl false ⟨false, false, false⟩ l (if i then ramp u else u)) := by
  cases i with
  | false => rfl
  | true => exact congrArg Host.Outcome.next (incBody_withControl false ⟨false, false, false⟩ l u)

theorem execAll_slotE (u : State) (e l l' : Bool) :
    execAll (if e then [if l' then .slotRise else .slotFall] else [])
        (withControl false ⟨false, false, false⟩ l u) =
      .next (withControl false ⟨false, false, false⟩ (if e then l' else l)
        (if e then edgeTo (if e then l' else l) u else u)) := by
  cases e with
  | false => rfl
  | true =>
    have hslot (v : State) : execAll [if l' then .slotRise else .slotFall] v =
        .next (edgeBody (v.setPin l')) := by
      cases l' <;> rfl
    exact (hslot _).trans
      (congrArg Host.Outcome.next (edgeBody_withControl false ⟨false, false, false⟩ l' u))

/-- With nothing pending and no frame due, an event word is its slots, one after the other. -/
theorem execAll_slotsOf {s : State} (hg : s.gie = true) (hs : s.inService = false)
    (hp : s.pend = ⟨false, false, false⟩) (hfc : s.fc.toNat ≤ 2929) (w : EventWord) :
    execAll (slotsOf w) s = .next (invoke w s) := by
  have hself : withControl false ⟨false, false, false⟩ s.pin s = s := by
    rw [← hp, ← hs, withControl_self]
  have hP := execAll_slotP hfc (wordP w) s.pin
  have hPI := (execAll_append _ _ _ _ hP).trans (execAll_slotI _ (wordI w) s.pin)
  have hPIE := (execAll_append _ _ _ _ hPI).trans (execAll_slotE _ (wordE w) s.pin (wordL w))
  rw [hself] at hPIE
  rw [slotsOf, hPIE, invoke_eq_serviced hg hs hp]
  rfl

/-- Settles O46: each of the 16 words, as one of the family. -/
theorem eventWordsRunTheirSlotsInOrder : Obligations.EventWordsRunTheirSlotsInOrder := by
  intro s hg hs hp hfc
  have hruns (w : EventWord) :
      ∃ t, exec (wordInstr w) s = .next t ∧ execAll (slotsOf w) s = .next t :=
    ⟨_, exec_word w s, execAll_slotsOf hg hs hp hfc w⟩
  exact ⟨hruns 0, hruns 1, hruns 2, hruns 3, hruns 4, hruns 5, hruns 6, hruns 7, hruns 8, hruns 9,
    hruns 10, hruns 11, hruns 12, hruns 13, hruns 14, hruns 15⟩

/-- The word of the state's own flags and pin presents nothing new. -/
theorem present_own_word (s : State) :
    present (wordOf s.pin s.pend.edge s.pend.t1 s.pend.t0) s = s := by
  simp only [present_eq, wordP_wordOf, wordI_wordOf, wordE_wordOf, wordL_wordOf, Bool.or_self, ite_self]

/-- Settles O47: the word presents the flags that are there already, so its invocation is DISPATCH. -/
theorem dispatchIsItsEventWord : Obligations.DispatchIsItsEventWord := by
  intro s hg hs
  refine ⟨_, dispatch s, decode_word _, ?_, exec_dispatch s⟩
  rw [exec_word, invoke_eq hg hs, present_own_word]

/-- Settles O48: held off, an event word only presents. -/
theorem noInvocationWhileHeldOff : Obligations.NoInvocationWhileHeldOff := by
  intro s w hoff
  refine ⟨wordInstr w, decode_word w, ?_⟩
  obtain ⟨hg, hs, -⟩ | ⟨-, h⟩ := invoke_cases w s
  · simp [hg, hs] at hoff
  · rw [exec_word, h, present_eq]
    rfl

/-! ## Without a PWM tick -/

/-- From `s` to `t` nothing was drawn, ticked, committed or decayed. -/
def NoFrameTick (s t : State) : Prop :=
  t.seed = s.seed ∧ t.tgt0 = s.tgt0 ∧ t.tgt1 = s.tgt1 ∧ t.fc = s.fc ∧ t.cnt0 = s.cnt0 ∧
    t.cnt1 = s.cnt1 ∧ t.out = s.out ∧ s.bright.toNat ≤ t.bright.toNat

theorem noFrameTick_dispatch {s : State} (hfc : s.fc.toNat ≤ 2929) (ht : s.pend.t0 = false) :
    NoFrameTick s (dispatch s) := by
  have hpwm : pwmStep (enter s) = enter s := pwmStep_of_not_pending ht
  have hframe : frameStep (enter s) = enter s := frameStep_of_not_full hfc
  have hdispatch : dispatch s = leave (edgeStep (incStep (enter s))) := by
    rw [dispatch, hpwm, hframe]
  obtain ⟨-, hrises⟩ := (moves_incStep (enter s)).trans (moves_edgeStep _)
  have hbright : s.bright.toNat ≤ (dispatch s).bright.toNat := hdispatch ▸ hrises
  refine ⟨?_, ?_, ?_, ?_, ?_, ?_, ?_, hbright⟩ <;>
    rw [hdispatch, leave_eq, edgeStep_frame, incStep_frame, enter_eq]

theorem noFrameTick_invoke {s : State} (hfc : s.fc.toNat ≤ 2929) (ht : s.pend.t0 = false)
    {w : EventWord} (hw : wordP w = false) : NoFrameTick s (invoke w s) := by
  have ht' : (present w s).pend.t0 = false := by simp [present_eq, ht, hw]
  obtain ⟨-, -, h⟩ | ⟨-, h⟩ := invoke_cases w s <;> rw [h]
  · exact noFrameTick_dispatch (s := present w s) hfc ht'
  · exact ⟨rfl, rfl, rfl, rfl, rfl, rfl, rfl, le_rfl⟩

/-- Settles O49: without `IF.T0` neither S1 nor S2 does anything, and S3 and S4 only raise the brightness. -/
theorem noFrameTickWithoutAPwmTick : Obligations.NoFrameTickWithoutAPwmTick := by
  refine ⟨fun s => ⟨_, exec_dispatch s, dispatch_fc_le s⟩, fun s i hfc ht hi => ?_⟩
  have hcases : i = .dispatch ∨ ∃ w, wordP w = false ∧ i = wordInstr w := by
    simp only [List.mem_cons, List.not_mem_nil, or_false] at hi
    obtain rfl | rfl | rfl | rfl | rfl | rfl | rfl | rfl | rfl := hi
    · exact .inl rfl
    · exact .inr ⟨0, rfl, rfl⟩
    · exact .inr ⟨2, rfl, rfl⟩
    · exact .inr ⟨4, rfl, rfl⟩
    · exact .inr ⟨6, rfl, rfl⟩
    · exact .inr ⟨8, rfl, rfl⟩
    · exact .inr ⟨10, rfl, rfl⟩
    · exact .inr ⟨12, rfl, rfl⟩
    · exact .inr ⟨14, rfl, rfl⟩
  obtain rfl | ⟨w, hw, rfl⟩ := hcases
  · exact ⟨_, exec_dispatch s, noFrameTick_dispatch hfc ht⟩
  · exact ⟨_, exec_word w s, noFrameTick_invoke hfc ht hw⟩

/-! ## The order of the steps -/

theorem rise_bright (s : State) : (rise s).bright.toNat = min 255 (s.bright.toNat + 1) :=
  increment_bright (s.setHold true)

theorem rise_hold (s : State) : (rise s).hold = true := by rw [rise_frame]

theorem pwmBody_fc (s : State) : (pwmBody s).fc.toNat = min (s.fc.toNat + 1) 4095 := by
  rw [pwmBody_eq]
  exact fcNext_toNat s.fc

/-- A tick that fills the frame decays the brightness unless `HOLD` = 1. -/
theorem frameStep_pwmBody_bright {s : State} (hfc : s.fc.toNat = 2929) :
    (frameStep (pwmBody s)).bright.toNat = s.bright.toNat - (if s.hold then 0 else 1) := by
  have hfull : 2930 ≤ (pwmBody s).fc.toNat := by
    rw [pwmBody_fc]
    omega
  rw [frameStep_of_full hfull]
  exact (onFrameTick_bright _).trans (by rw [pwmBody_bright, pwmBody_hold])

/-- Settles O50: each pair is a short run of step bodies, whose brightness changes are computed in order. -/
theorem stepsSeeTheHoldOfBefore : Obligations.StepsSeeTheHoldOfBefore := by
  intro s hg hs hp hpos hlt
  have hPRise : invoke 13 s =
      withControl false ⟨false, false, false⟩ true (rise (frameStep (pwmBody s))) :=
    invoke_eq_serviced hg hs hp 13
  have hPFall : invoke 5 s =
      withControl false ⟨false, false, false⟩ false (fall (frameStep (pwmBody s))) :=
    invoke_eq_serviced hg hs hp 5
  have hIRise : invoke 14 s =
      withControl false ⟨false, false, false⟩ true (rise (ramp (frameStep s))) :=
    invoke_eq_serviced hg hs hp 14
  have hIFall : invoke 6 s =
      withControl false ⟨false, false, false⟩ false (fall (ramp (frameStep s))) :=
    invoke_eq_serviced hg hs hp 6
  refine ⟨fun hfc hh => ⟨_, exec_word 13 s, ?_⟩, fun hfc hh => ⟨_, exec_word 5 s, ?_⟩,
    fun hfc hh => ⟨_, exec_word 14 s, ?_⟩, fun hfc hh => ⟨_, exec_word 6 s, ?_⟩⟩
  · have hdecayed := frameStep_pwmBody_bright hfc
    rw [hh] at hdecayed
    have hpressed := rise_bright (frameStep (pwmBody s))
    simp only [hdecayed, Bool.false_eq_true, if_false] at hpressed
    rw [hPRise, withControl_bright, withControl_hold]
    exact ⟨BitVec.eq_of_toNat_eq (hpressed.trans (by omega)), rise_hold _⟩
  · have hkept := frameStep_pwmBody_bright hfc
    rw [hh] at hkept
    rw [hPFall, withControl_bright, withControl_hold]
    exact ⟨BitVec.eq_of_toNat_eq hkept, rfl⟩
  · have hnothing : ramp (frameStep s) = s := by
      rw [frameStep_of_not_full (by omega), ramp_of_not_hold hh]
    rw [hIRise, hnothing, withControl_bright, withControl_hold]
    exact ⟨(rise_bright s).trans (by omega), rise_hold s⟩
  · have hramp : ramp (frameStep s) = increment s := by
      rw [frameStep_of_not_full (by omega), ramp_of_hold hh]
    rw [hIFall, hramp, withControl_bright, withControl_hold]
    exact ⟨(increment_bright s).trans (by omega), rfl⟩

end Sys2Proof.Proofs
end

section
/-! SUPPORT. Runs of PWM ticks: one frame, and the duty over one counter period (R114, R151, R152, R160). -/

namespace Sys2Proof.Proofs

open Sys2Proof Sys2Proof.Machine Sys2Proof.Safety

/-- The state after `k` bodies of S1, but for the port and the output events: both counters and `FC` are
`k` further, and nothing else has changed. -/
structure Ticked (k : Nat) (s t : State) : Prop where
  cnt0 : t.cnt0.toNat = (s.cnt0.toNat + k) % 256
  cnt1 : t.cnt1.toNat = (s.cnt1.toNat + k) % 256
  fc : t.fc.toNat = min (s.fc.toNat + k) 4095
  seed : t.seed = s.seed
  tgt0 : t.tgt0 = s.tgt0
  tgt1 : t.tgt1 = s.tgt1
  bright : t.bright = s.bright
  low : t.low = s.low
  high : t.high = s.high
  hold : t.hold = s.hold
  gie : t.gie = s.gie
  inService : t.inService = s.inService
  pend : s.pend = ⟨false, false, false⟩ → t.pend = ⟨false, false, false⟩

theorem Ticked.zero (s : State) : Ticked 0 s s where
  cnt0 := by have h := s.cnt0.isLt; omega
  cnt1 := by have h := s.cnt1.isLt; omega
  fc := by have h := s.fc.isLt; omega
  seed := rfl
  tgt0 := rfl
  tgt1 := rfl
  bright := rfl
  low := rfl
  high := rfl
  hold := rfl
  gie := rfl
  inService := rfl
  pend := id

theorem Ticked.pwmBody {k : Nat} {s t : State} (h : Ticked k s t) : Ticked (k + 1) s (pwmBody t) := by
  have hcnt0 : (Machine.pwmBody t).cnt0 = cntNext t.cnt0 := by rw [pwmBody_eq]
  have hcnt1 : (Machine.pwmBody t).cnt1 = cntNext t.cnt1 := by rw [pwmBody_eq]
  have hpend : (Machine.pwmBody t).pend = ⟨false, t.pend.t1, t.pend.edge⟩ := by rw [pwmBody_eq]
  refine
    { cnt0 := ?_, cnt1 := ?_, fc := ?_, seed := ?_, tgt0 := ?_, tgt1 := ?_
      bright := ?_, low := ?_, high := ?_, hold := ?_, gie := ?_, inService := ?_
      pend := fun hp => by rw [hpend, h.pend hp] }
  · rw [hcnt0, cntNext_toNat, h.cnt0]; omega
  · rw [hcnt1, cntNext_toNat, h.cnt1]; omega
  · rw [pwmBody_fc, h.fc]; omega
  all_goals rw [pwmBody_eq]
  · exact h.seed
  · exact h.tgt0
  · exact h.tgt1
  · exact h.bright
  · exact h.low
  · exact h.high
  · exact h.hold
  · exact h.gie
  · exact h.inService

theorem ticked_iterate (k : Nat) (s : State) : Ticked k s (pwmBody^[k] s) := by
  induction k with
  | zero => exact .zero s
  | succ k ih => rw [Function.iterate_succ_apply']; exact ih.pwmBody

/-- The event that the commit of the (j+1)-th tick records (R110, R112). -/
def commitEvent (s : State) (j : Nat) : OutEvent :=
  .out (decide ((s.cnt1.toNat + 1 + j) % 256 < s.tgt1.toNat))
    (decide ((s.cnt0.toNat + 1 + j) % 256 < s.tgt0.toNat))

theorem trace_iterate_pwmBody (k : Nat) (s : State) :
    (pwmBody^[k] s).trace = s.trace ++ (List.range k).map (commitEvent s) := by
  induction k with
  | zero => simp
  | succ k ih =>
    have hticked := ticked_iterate k s
    have hcnt0 : ((pwmBody^[k] s).cnt0.toNat + 1) % 256 = (s.cnt0.toNat + 1 + k) % 256 := by
      rw [hticked.cnt0]; omega
    have hcnt1 : ((pwmBody^[k] s).cnt1.toNat + 1) % 256 = (s.cnt1.toNat + 1 + k) % 256 := by
      rw [hticked.cnt1]; omega
    rw [Function.iterate_succ_apply', pwmBody_eq, List.range_succ, List.map_append, ← List.append_assoc,
      ← ih]
    simp only [hcnt0, hcnt1, hticked.tgt0, hticked.tgt1]
    rfl

/-- Where an invocation may run and nothing is pending, `D P` is one tick and then S2. -/
theorem after_evP {s : State} (hg : s.gie = true) (hs : s.inService = false)
    (hp : s.pend = ⟨false, false, false⟩) : after .evP s = frameStep (pwmBody s) := by
  have hself : withControl false ⟨false, false, false⟩ s.pin s = s := by
    rw [← hp, ← hs, withControl_self]
  have hword : invoke 1 s =
      withControl false ⟨false, false, false⟩ s.pin (frameStep (pwmBody s)) :=
    invoke_eq_serviced hg hs hp 1
  calc after .evP s = invoke 1 s := after_word 1 s
    _ = frameStep (pwmBody (withControl false ⟨false, false, false⟩ s.pin s)) := by
        rw [hword, pwmBody_withControl, frameStep_withControl]
    _ = frameStep (pwmBody s) := by rw [hself]

section
variable {s : State} (hg : s.gie = true) (hs : s.inService = false) (hp : s.pend = ⟨false, false, false⟩)
include hg hs hp

/-- As long as no frame is due, `D P` is the body of S1. -/
theorem iterate_evP {k : Nat} (hfc : s.fc.toNat + k ≤ 2929) :
    (after .evP)^[k] s = pwmBody^[k] s := by
  induction k with
  | zero => rfl
  | succ k ih =>
    have hticked := ticked_iterate k s
    have hnotdue : (pwmBody (pwmBody^[k] s)).fc.toNat ≤ 2929 := by
      rw [hticked.pwmBody.fc]
      omega
    rw [Function.iterate_succ_apply', Function.iterate_succ_apply', ih (by omega),
      after_evP (hticked.gie.trans hg) (hticked.inService.trans hs) (hticked.pend hp),
      frameStep_of_not_full hnotdue]

/-- One more `D P`, which may complete the frame. -/
theorem iterate_evP_succ {k : Nat} (hfc : s.fc.toNat + k ≤ 2929) :
    (after .evP)^[k + 1] s = frameStep (pwmBody^[k + 1] s) := by
  have hticked := ticked_iterate k s
  rw [Function.iterate_succ_apply', iterate_evP hg hs hp hfc,
    after_evP (hticked.gie.trans hg) (hticked.inService.trans hs) (hticked.pend hp),
    Function.iterate_succ_apply']

end

theorem frameStep_cnt0 (s : State) : (frameStep s).cnt0 = s.cnt0 := by rw [frameStep_frame]

theorem frameStep_cnt1 (s : State) : (frameStep s).cnt1 = s.cnt1 := by rw [frameStep_frame]

theorem frameStep_trace (s : State) : (frameStep s).trace = s.trace := by rw [frameStep_frame]

/-- Settles O51: every tick but the last is the body of S1, and the last one also runs S2 once. -/
theorem oneFrameTickPerFrameOfPwmTicks : Obligations.OneFrameTickPerFrameOfPwmTicks := by
  intro s hg hs hp hfc
  refine ⟨fun k hk => ⟨_, execTimes_eq_iterate .evP k s, ?_⟩,
    ⟨_, execTimes_eq_iterate .evP (2930 - s.fc.toNat) s, ?_⟩⟩
  · have hticked := ticked_iterate k s
    rw [iterate_evP hg hs hp (by omega)]
    refine ⟨?_, hticked.seed, hticked.tgt0, hticked.tgt1, hticked.bright, hticked.cnt0, ?_⟩
    · rw [hticked.fc]; omega
    · rw [trace_iterate_pwmBody, List.length_append, List.length_map, List.length_range]
  · obtain ⟨k, hk⟩ : ∃ k, 2930 - s.fc.toNat = k + 1 := ⟨2929 - s.fc.toNat, by omega⟩
    rw [hk, iterate_evP_succ hg hs hp (by omega)]
    have hticked := ticked_iterate (k + 1) s
    generalize pwmBody^[k + 1] s = u at hticked ⊢
    have hdue : 2930 ≤ u.fc.toNat := by rw [hticked.fc]; omega
    have hbright := onFrameTick_bright u
    rw [hticked.bright, hticked.hold] at hbright
    rw [frameStep_of_full hdue]
    refine ⟨rfl, ?_, ?_, ?_, hbright, ?_⟩ <;>
      rw [onFrameTick_frame]
    · simp only [hticked.seed]
    · simp only [hticked.seed, hticked.low, hticked.high]
    · simp only [hticked.seed, hticked.low, hticked.high]
    · exact hticked.cnt0

/-! ## The duty -/

/-- Of 256 successive counter values, taken modulo 256, exactly `n` are below `n`. -/
theorem count_mod_lt (n : Nat) (hn : n ≤ 256) (a : Nat) :
    (List.range 256).countP (fun j => decide ((a + j) % 256 < n)) = n := by
  have hperiod : Nat.count (fun j => (a + j) % 256 < n) 256 = Nat.count (fun j => j % 256 < n) 256 := by
    have hleft := Nat.count_add (fun j => j % 256 < n) a 256
    have hright := Nat.count_add (fun j => j % 256 < n) 256 a
    simp only [Nat.add_mod_left] at hright
    rw [Nat.add_comm a 256] at hleft
    omega
  have hbelow : Nat.count (fun j => j % 256 < n) n = n :=
    Nat.count_of_forall fun j hj => by omega
  have habove : Nat.count (fun j => (n + j) % 256 < n) (256 - n) = 0 :=
    Nat.count_of_forall_not fun j hj => by omega
  have hsplit := Nat.count_add (fun j => j % 256 < n) n (256 - n)
  rw [hbelow, habove, Nat.add_sub_cancel' hn] at hsplit
  exact hperiod.trans hsplit

/-- Settles O20: the 256 commits compare 256 successive counter values with a target that no frame tick
before the last of them has changed. -/
theorem dutyOverOneCounterPeriod : Obligations.DutyOverOneCounterPeriod := by
  intro s hg hs hp hfc
  have hrun := iterate_evP_succ hg hs hp (k := 255) (by omega)
  have hticked := ticked_iterate 256 s
  have h0 := s.cnt0.isLt
  have h1 := s.cnt1.isLt
  refine ⟨_, (List.range 256).map (commitEvent s), execTimes_eq_iterate .evP 256 s, ?_, ?_, ?_, ?_, ?_, ?_⟩
  · rw [hrun, frameStep_trace, trace_iterate_pwmBody]
  · rw [List.length_map, List.length_range]
  · rw [List.countP_map]
    exact count_mod_lt s.tgt0.toNat s.tgt0.isLt.le (s.cnt0.toNat + 1)
  · rw [List.countP_map]
    exact count_mod_lt s.tgt1.toNat s.tgt1.isLt.le (s.cnt1.toNat + 1)
  · rw [hrun, frameStep_cnt0]
    exact BitVec.eq_of_toNat_eq (hticked.cnt0.trans (by omega))
  · rw [hrun, frameStep_cnt1]
    exact BitVec.eq_of_toNat_eq (hticked.cnt1.trans (by omega))

end Sys2Proof.Proofs
end

section
/-! SUPPORT. Environment steps inside an invocation, moved before or after it (R12, R158). -/

namespace Sys2Proof.Proofs

open Sys2Proof Sys2Proof.Machine Sys2Proof.Safety

/-! ## What a run of environment steps does to the flags and the pin -/

/-- The flags after the environment steps `l`: each source in `l` has set its own (R173 to R175). -/
def raised (l : List EnvEvent) (p : Pending) : Pending :=
  ⟨p.t0 || l.contains .timer0, p.t1 || l.contains .timer1, p.edge || l.contains .pinEdge⟩

/-- The pin after the environment steps `l`: toggled once for each transition (R175). -/
def pinAfter (l : List EnvEvent) (x : Bool) : Bool := x ^^ (l.count .pinEdge).bodd

theorem environments_withControl (l : List EnvEvent) (b : Bool) (p : Pending) (x : Bool) (s : State) :
    environments l (withControl b p x s) = withControl b (raised l p) (pinAfter l x) s := by
  induction l generalizing p x with
  | nil => simp [environments, raised, pinAfter]
  | cons e l ih =>
    have hcons (u : State) : environments (e :: l) u = environments l (environment e u) := rfl
    rw [hcons]
    cases e with
    | timer0 =>
      have henv : environment .timer0 (withControl b p x s) = withControl b ⟨true, p.t1, p.edge⟩ x s := rfl
      rw [henv, ih]
      simp [raised, pinAfter]
    | timer1 =>
      have henv : environment .timer1 (withControl b p x s) = withControl b ⟨p.t0, true, p.edge⟩ x s := rfl
      rw [henv, ih]
      simp [raised, pinAfter]
    | pinEdge =>
      have henv : environment .pinEdge (withControl b p x s) = withControl b ⟨p.t0, p.t1, true⟩ (!x) s := rfl
      rw [henv, ih]
      simp [raised, pinAfter, Nat.bodd_succ]

theorem environments_eq (l : List EnvEvent) (s : State) :
    environments l s = withControl s.inService (raised l s.pend) (pinAfter l s.pin) s :=
  environments_withControl l s.inService s.pend s.pin s

theorem contains_filter_eq (f : EnvEvent → Bool) (l : List EnvEvent) (e : EnvEvent) :
    (l.filter f).contains e = (l.contains e && f e) := by
  rw [Bool.eq_iff_iff]
  simp [List.mem_filter]

theorem contains_append_eq (l m : List EnvEvent) (e : EnvEvent) :
    (l ++ m).contains e = (l.contains e || m.contains e) := by
  rw [Bool.eq_iff_iff]
  simp

theorem pinAfter_append (l m : List EnvEvent) (x : Bool) :
    pinAfter (l ++ m) x = pinAfter m (pinAfter l x) := by
  simp [pinAfter, Nat.bodd_add]

/-- Dropping steps other than pin transitions does not move the pin. -/
theorem pinAfter_filter_of_keeps {f : EnvEvent → Bool} (hf : f .pinEdge = true) (l : List EnvEvent)
    (x : Bool) : pinAfter (l.filter f) x = pinAfter l x := by
  rw [pinAfter, pinAfter, List.count_filter hf]

/-- Steps among which there is no pin transition do not move the pin. -/
theorem pinAfter_filter_of_drops {f : EnvEvent → Bool} (hf : f .pinEdge = false) (l : List EnvEvent)
    (x : Bool) : pinAfter (l.filter f) x = x := by
  have hcount : (l.filter f).count .pinEdge = 0 :=
    List.count_eq_zero.2 fun hmem => by simp [hf] at hmem
  rw [pinAfter, hcount, Nat.bodd_zero, Bool.xor_false]

/-! ## The two runs -/

/-- An invocation with environment steps inside it services `IF.T0` as S1 finds it, `IF.T1` as S3 finds it,
and `IF.EDGE` and the pin as S4 finds them. -/
theorem interleaved_eq (e0 e1 e2 e3 e4 : List EnvEvent) (s : State) :
    interleaved e0 e1 e2 e3 e4 s =
      withControl false
        ⟨e1.contains .timer0 || e2.contains .timer0 || e3.contains .timer0 || e4.contains .timer0,
          e3.contains .timer1 || e4.contains .timer1, e4.contains .pinEdge⟩
        (pinAfter (e0 ++ e1 ++ e2 ++ e3 ++ e4) s.pin)
        (serviced
          ⟨s.pend.t0 || e0.contains .timer0, (raised (e0 ++ e1 ++ e2) s.pend).t1,
            (raised (e0 ++ e1 ++ e2 ++ e3) s.pend).edge⟩
          (pinAfter (e0 ++ e1 ++ e2 ++ e3) s.pin) s) := by
  simp only [interleaved, environments_eq e0 s, enter_withControl, pwmStep_withControl,
    environments_withControl, frameStep_withControl, incStep_withControl, edgeStep_withControl,
    leave_withControl, serviced, raised, contains_append_eq, pinAfter_append, Bool.false_or, Bool.or_assoc]

/-- Settles O52: both runs service the same flags at the same pin level, and leave the same flags and pin. -/
theorem atomicInvocationLosesNoBehaviour : Obligations.AtomicInvocationLosesNoBehaviour := by
  intro e0 e1 e2 e3 e4 s
  refine ⟨_, exec_dispatch _, ?_⟩
  have hpin1 (x : Bool) : pinAfter (e1.filter (· ≠ .timer0)) x = pinAfter e1 x :=
    pinAfter_filter_of_keeps (by decide) e1 x
  have hpin2 (x : Bool) : pinAfter (e2.filter (· ≠ .timer0)) x = pinAfter e2 x :=
    pinAfter_filter_of_keeps (by decide) e2 x
  have hpin3 (x : Bool) : pinAfter (e3.filter (· = .pinEdge)) x = pinAfter e3 x :=
    pinAfter_filter_of_keeps (by decide) e3 x
  have hstill (l : List EnvEvent) (x : Bool) : pinAfter (l.filter (· = .timer0)) x = x :=
    pinAfter_filter_of_drops (by decide) l x
  have hstill3 (x : Bool) : pinAfter (e3.filter (· ≠ .pinEdge)) x = x :=
    pinAfter_filter_of_drops (by decide) e3 x
  rw [interleaved_eq, environments_eq _ s, dispatch_withControl, environments_withControl]
  simp only [raised, contains_append_eq, contains_filter_eq, pinAfter_append, hpin1, hpin2, hpin3, hstill,
    hstill3]
  simp [Bool.or_assoc]

end Sys2Proof.Proofs
end

section
/-! SUPPORT. Boot, the cold start, and the registers by name (R40, R62, R88, R201, R202). -/

namespace Sys2Proof.Proofs

open Sys2Proof Sys2Proof.Machine Sys2Proof.Safety

/-- Settles O53: the decoded number, and RESET's writes. -/
theorem resetWritesTheColdStartDefaults : Obligations.ResetWritesTheColdStartDefaults :=
  ⟨by decide, fun _ => rfl⟩

/-- Settles O55: the three boot commands, taken one by one from the agenda. -/
theorem bootLeadsToTheColdStartState : Obligations.BootLeadsToTheColdStartState := by
  intro s
  have hreset : decode ⟨.opn, 21, 0, 0⟩ = .ok .reset := by decide
  have hseed : decode ⟨.opn, 0, 0, 0⟩ = .ok .seed := by decide
  have hstart : decode ⟨.opn, 22, 0, 0⟩ = .ok .start := by decide
  exact ⟨_, _, (step_command rfl hreset).trans rfl, rfl, (step_command rfl hseed).trans rfl, rfl,
    (step_command rfl hstart).trans rfl⟩

/-- Settles O56: the registers of the cold start are written out in its definition. -/
theorem coldStartRegisterValues : Obligations.ColdStartRegisterValues :=
  fun _ _ _ => ⟨rfl, rfl, rfl, rfl, rfl, rfl, rfl, rfl, rfl, rfl, rfl, rfl, rfl, rfl, rfl⟩

theorem toNat_mod_two_beq_one (v : Nat) : (v % 2 == 1).toNat = v % 2 := by
  obtain h | h := Nat.mod_two_eq_zero_or_one v <;> rw [h] <;> rfl

/-- The register of an index of R62. -/
def regAt : Nat → Reg
  | 0 => .bright
  | 1 => .low
  | 2 => .high
  | 3 => .cnt0
  | 4 => .cnt1
  | 5 => .tgt0
  | 6 => .tgt1
  | 7 => .fc
  | 8 => .seed
  | 9 => .hold
  | 10 => .pend
  | 11 => .gie
  | 12 => .inService
  | 13 => .out
  | _ => .pin

theorem regAt_regIndex (r : Reg) : regAt (regIndex r) = r := by
  cases r <;> rfl

/-- Settles O60: an index determines its register, the read-back register by register. -/
theorem registersReadBackWhatIsForced : Obligations.RegistersReadBackWhatIsForced := by
  refine ⟨fun r => by cases r <;> decide, Function.LeftInverse.injective regAt_regIndex, fun s r v => ?_⟩
  cases r with
  | pend => exact (congrArg BitVec.toNat (pendingBits_pendingOf _)).trans (BitVec.toNat_ofNat v 3)
  | hold => exact toNat_mod_two_beq_one v
  | gie => exact toNat_mod_two_beq_one v
  | inService => exact toNat_mod_two_beq_one v
  | pin => exact toNat_mod_two_beq_one v
  | fc => exact BitVec.toNat_ofNat v 12
  | seed => exact BitVec.toNat_ofNat v 32
  | out => exact BitVec.toNat_ofNat v 2
  | _ => exact BitVec.toNat_ofNat v 8

end Sys2Proof.Proofs
end
